-- ==== Sys2Proof/Word.lean ====
section
/-! DEFINITION. The two word types of the machine (00_scope R4): bytes of 8 bits, and 16-bit words for
register pairs, SP, PC and addresses. -/

namespace Sys2Proof

/-- General registers and memory cells are 8 bits wide (R4). -/
abbrev Byte := BitVec 8

/-- Register pairs, SP, PC, the timer counter and addresses are 16 bits wide (R4). -/
abbrev Word := BitVec 16

end Sys2Proof
end

