-- ==== Sys2Proof/Machine/Bits.lean ====
section
/-! DEFINITION. Bit-field, byte-order and extension helpers (00_scope R5, R6), and the addresses the core
itself gives a meaning to (10_state R21). -/

namespace Sys2Proof

/-- `v[15:8]` (R5). -/
def hiByte (v : Word) : Byte := v.extractLsb' 8 8

/-- `v[7:0]` (R5). -/
def loByte (v : Word) : Byte := v.extractLsb' 0 8

/-- The concatenation of R5 with `hi` in bits 15 to 8. -/
def wordOf (hi lo : Byte) : Word := hi ++ lo

/-- `sext_16` (R6). -/
def sext16 (b : Byte) : Word := b.signExtend 16

/-- `zext_16` (R6). -/
def zext16 (b : Byte) : Word := b.setWidth 16

/-- A flag as the number 0 or 1 (R5). -/
def bitByte (c : Bool) : Byte := if c then 1 else 0

/-- The address `0xFF00 + offset` of the LDH and `(C)` forms (R40, R72, R111 to R114). -/
def ioPage (offset : Byte) : Word := 0xFF00 + zext16 offset

namespace Addr

/-- JOYP (R22). -/
abbrev joyp : Word := 0xFF00
/-- DIV (R23). -/
abbrev div : Word := 0xFF04
/-- TIMA (R24). -/
abbrev tima : Word := 0xFF05
/-- TMA (R25). -/
abbrev tma : Word := 0xFF06
/-- TAC (R26). -/
abbrev tac : Word := 0xFF07
/-- IF, the pending interrupts (R27). -/
abbrev ifReg : Word := 0xFF0F
/-- DMA (R29). -/
abbrev dma : Word := 0xFF46
/-- IE, the enabled interrupts (R28). -/
abbrev ieReg : Word := 0xFFFF
/-- The first byte of OAM, the destination of the DMA copy (R51). -/
abbrev oam : Nat := 0xFE00
/-- The number of bytes the DMA copy moves (R51). -/
abbrev oamBytes : Nat := 0xA0

end Addr

end Sys2Proof
end

