-- ==== Sys2Proof/Syntax.lean ====
section
/-! DEFINITION. The instructions: ONE inductive with one constructor per row of spec/opcode_table.json, and the operand kinds of 30_encoding R73 and R74. The selectors below name the rows of one shape
by their operands: each is a plain choice of a constructor. In a constructor's name mHL, mBC, mDE, mC, ma8 and
ma16 stand for the memory operands (HL), (BC), (DE), (C), (a8), (a16), and mHLi, mHLd for (HL+), (HL-). -/

namespace Sys2Proof

/-- The 8-bit registers an instruction can name (10_state R10, 30_encoding R73). -/
inductive Reg8 where
  | B | C | D | E | H | L | A
  deriving DecidableEq, Repr

/-- The operand locations `r8[i]` (R73): the seven registers, and the memory byte at HL. -/
inductive Loc8 where
  | reg (r : Reg8)
  | atHL
  deriving DecidableEq, Repr

/-- `rp` (R74). -/
inductive Pair where
  | BC | DE | HL | SP
  deriving DecidableEq, Repr

/-- `rp2` (R74). -/
inductive StackPair where
  | BC | DE | HL | AF
  deriving DecidableEq, Repr

/-- `cc` (R74, R230). -/
inductive Cond where
  | NZ | Z | NC | C
  deriving DecidableEq, Repr

/-- `alu` (R74, R152). -/
inductive AluOp where
  | add | adc | sub | sbc | and | xor | or | cp
  deriving DecidableEq, Repr

/-- `rot` (R74). -/
inductive RotOp where
  | rlc | rrc | rl | rr | sla | sra | swap | srl
  deriving DecidableEq, Repr

/-- The bit index `b` (R74). -/
inductive BitIdx where
  | b0 | b1 | b2 | b3 | b4 | b5 | b6 | b7
  deriving DecidableEq, Repr

/-- The eight RST targets, by their hexadecimal name (R74, R241). -/
inductive RstTarget where
  | t00 | t08 | t10 | t18 | t20 | t28 | t30 | t38
  deriving DecidableEq, Repr

/-- The eleven illegal opcodes, by their value (R79). -/
inductive IllegalOp where
  | xD3 | xDB | xDD | xE3 | xE4 | xEB | xEC | xED | xF4 | xFC | xFD
  deriving DecidableEq, Repr

/-- One constructor per row of the opcode table, the rows with an operand first. STOP carries the byte it skips (R81; log 10). `prefixCb` is the
row PREFIX CB (R255; log 7). -/
inductive Instr where
  | ld_BC_d16 (d16 : Word)
  | ld_B_d8 (d8 : Byte)
  | ld_ma16_SP (a16 : Word)
  | ld_C_d8 (d8 : Byte)
  | stop (pad : Byte)
  | ld_DE_d16 (d16 : Word)
  | ld_D_d8 (d8 : Byte)
  | jr_r8 (r8 : Byte)
  | ld_E_d8 (d8 : Byte)
  | jr_NZ_r8 (r8 : Byte)
  | ld_HL_d16 (d16 : Word)
  | ld_H_d8 (d8 : Byte)
  | jr_Z_r8 (r8 : Byte)
  | ld_L_d8 (d8 : Byte)
  | jr_NC_r8 (r8 : Byte)
  | ld_SP_d16 (d16 : Word)
  | ld_mHL_d8 (d8 : Byte)
  | jr_C_r8 (r8 : Byte)
  | ld_A_d8 (d8 : Byte)
  | jp_NZ_a16 (a16 : Word)
  | jp_a16 (a16 : Word)
  | call_NZ_a16 (a16 : Word)
  | add_A_d8 (d8 : Byte)
  | jp_Z_a16 (a16 : Word)
  | call_Z_a16 (a16 : Word)
  | call_a16 (a16 : Word)
  | adc_A_d8 (d8 : Byte)
  | jp_NC_a16 (a16 : Word)
  | call_NC_a16 (a16 : Word)
  | sub_d8 (d8 : Byte)
  | jp_C_a16 (a16 : Word)
  | call_C_a16 (a16 : Word)
  | sbc_A_d8 (d8 : Byte)
  | ldh_ma8_A (a8 : Byte)
  | and_d8 (d8 : Byte)
  | add_SP_r8 (r8 : Byte)
  | ld_ma16_A (a16 : Word)
  | xor_d8 (d8 : Byte)
  | ldh_A_ma8 (a8 : Byte)
  | or_d8 (d8 : Byte)
  | ld_HL_SPr8 (r8 : Byte)
  | ld_A_ma16 (a16 : Word)
  | cp_d8 (d8 : Byte)
  | nop
  | ld_mBC_A
  | inc_BC
  | inc_B
  | dec_B
  | rlca
  | add_HL_BC
  | ld_A_mBC
  | dec_BC
  | inc_C
  | dec_C
  | rrca
  | ld_mDE_A
  | inc_DE
  | inc_D
  | dec_D
  | rla
  | add_HL_DE
  | ld_A_mDE
  | dec_DE
  | inc_E
  | dec_E
  | rra
  | ld_mHLi_A
  | inc_HL
  | inc_H
  | dec_H
  | daa
  | add_HL_HL
  | ld_A_mHLi
  | dec_HL
  | inc_L
  | dec_L
  | cpl
  | ld_mHLd_A
  | inc_SP
  | inc_mHL
  | dec_mHL
  | scf
  | add_HL_SP
  | ld_A_mHLd
  | dec_SP
  | inc_A
  | dec_A
  | ccf
  | ld_B_B
  | ld_B_C
  | ld_B_D
  | ld_B_E
  | ld_B_H
  | ld_B_L
  | ld_B_mHL
  | ld_B_A
  | ld_C_B
  | ld_C_C
  | ld_C_D
  | ld_C_E
  | ld_C_H
  | ld_C_L
  | ld_C_mHL
  | ld_C_A
  | ld_D_B
  | ld_D_C
  | ld_D_D
  | ld_D_E
  | ld_D_H
  | ld_D_L
  | ld_D_mHL
  | ld_D_A
  | ld_E_B
  | ld_E_C
  | ld_E_D
  | ld_E_E
  | ld_E_H
  | ld_E_L
  | ld_E_mHL
  | ld_E_A
  | ld_H_B
  | ld_H_C
  | ld_H_D
  | ld_H_E
  | ld_H_H
  | ld_H_L
  | ld_H_mHL
  | ld_H_A
  | ld_L_B
  | ld_L_C
  | ld_L_D
  | ld_L_E
  | ld_L_H
  | ld_L_L
  | ld_L_mHL
  | ld_L_A
  | ld_mHL_B
  | ld_mHL_C
  | ld_mHL_D
  | ld_mHL_E
  | ld_mHL_H
  | ld_mHL_L
  | halt
  | ld_mHL_A
  | ld_A_B
  | ld_A_C
  | ld_A_D
  | ld_A_E
  | ld_A_H
  | ld_A_L
  | ld_A_mHL
  | ld_A_A
  | add_A_B
  | add_A_C
  | add_A_D
  | add_A_E
  | add_A_H
  | add_A_L
  | add_A_mHL
  | add_A_A
  | adc_A_B
  | adc_A_C
  | adc_A_D
  | adc_A_E
  | adc_A_H
  | adc_A_L
  | adc_A_mHL
  | adc_A_A
  | sub_B
  | sub_C
  | sub_D
  | sub_E
  | sub_H
  | sub_L
  | sub_mHL
  | sub_A
  | sbc_A_B
  | sbc_A_C
  | sbc_A_D
  | sbc_A_E
  | sbc_A_H
  | sbc_A_L
  | sbc_A_mHL
  | sbc_A_A
  | and_B
  | and_C
  | and_D
  | and_E
  | and_H
  | and_L
  | and_mHL
  | and_A
  | xor_B
  | xor_C
  | xor_D
  | xor_E
  | xor_H
  | xor_L
  | xor_mHL
  | xor_A
  | or_B
  | or_C
  | or_D
  | or_E
  | or_H
  | or_L
  | or_mHL
  | or_A
  | cp_B
  | cp_C
  | cp_D
  | cp_E
  | cp_H
  | cp_L
  | cp_mHL
  | cp_A
  | ret_NZ
  | pop_BC
  | push_BC
  | rst_00
  | ret_Z
  | ret
  | prefixCb
  | rst_08
  | ret_NC
  | pop_DE
  | illegal_D3
  | push_DE
  | rst_10
  | ret_C
  | reti
  | illegal_DB
  | illegal_DD
  | rst_18
  | pop_HL
  | ld_mC_A
  | illegal_E3
  | illegal_E4
  | push_HL
  | rst_20
  | jp_mHL
  | illegal_EB
  | illegal_EC
  | illegal_ED
  | rst_28
  | pop_AF
  | ld_A_mC
  | di
  | illegal_F4
  | push_AF
  | rst_30
  | ld_SP_HL
  | ei
  | illegal_FC
  | illegal_FD
  | rst_38
  | rlc_B
  | rlc_C
  | rlc_D
  | rlc_E
  | rlc_H
  | rlc_L
  | rlc_mHL
  | rlc_A
  | rrc_B
  | rrc_C
  | rrc_D
  | rrc_E
  | rrc_H
  | rrc_L
  | rrc_mHL
  | rrc_A
  | rl_B
  | rl_C
  | rl_D
  | rl_E
  | rl_H
  | rl_L
  | rl_mHL
  | rl_A
  | rr_B
  | rr_C
  | rr_D
  | rr_E
  | rr_H
  | rr_L
  | rr_mHL
  | rr_A
  | sla_B
  | sla_C
  | sla_D
  | sla_E
  | sla_H
  | sla_L
  | sla_mHL
  | sla_A
  | sra_B
  | sra_C
  | sra_D
  | sra_E
  | sra_H
  | sra_L
  | sra_mHL
  | sra_A
  | swap_B
  | swap_C
  | swap_D
  | swap_E
  | swap_H
  | swap_L
  | swap_mHL
  | swap_A
  | srl_B
  | srl_C
  | srl_D
  | srl_E
  | srl_H
  | srl_L
  | srl_mHL
  | srl_A
  | bit_0_B
  | bit_0_C
  | bit_0_D
  | bit_0_E
  | bit_0_H
  | bit_0_L
  | bit_0_mHL
  | bit_0_A
  | bit_1_B
  | bit_1_C
  | bit_1_D
  | bit_1_E
  | bit_1_H
  | bit_1_L
  | bit_1_mHL
  | bit_1_A
  | bit_2_B
  | bit_2_C
  | bit_2_D
  | bit_2_E
  | bit_2_H
  | bit_2_L
  | bit_2_mHL
  | bit_2_A
  | bit_3_B
  | bit_3_C
  | bit_3_D
  | bit_3_E
  | bit_3_H
  | bit_3_L
  | bit_3_mHL
  | bit_3_A
  | bit_4_B
  | bit_4_C
  | bit_4_D
  | bit_4_E
  | bit_4_H
  | bit_4_L
  | bit_4_mHL
  | bit_4_A
  | bit_5_B
  | bit_5_C
  | bit_5_D
  | bit_5_E
  | bit_5_H
  | bit_5_L
  | bit_5_mHL
  | bit_5_A
  | bit_6_B
  | bit_6_C
  | bit_6_D
  | bit_6_E
  | bit_6_H
  | bit_6_L
  | bit_6_mHL
  | bit_6_A
  | bit_7_B
  | bit_7_C
  | bit_7_D
  | bit_7_E
  | bit_7_H
  | bit_7_L
  | bit_7_mHL
  | bit_7_A
  | res_0_B
  | res_0_C
  | res_0_D
  | res_0_E
  | res_0_H
  | res_0_L
  | res_0_mHL
  | res_0_A
  | res_1_B
  | res_1_C
  | res_1_D
  | res_1_E
  | res_1_H
  | res_1_L
  | res_1_mHL
  | res_1_A
  | res_2_B
  | res_2_C
  | res_2_D
  | res_2_E
  | res_2_H
  | res_2_L
  | res_2_mHL
  | res_2_A
  | res_3_B
  | res_3_C
  | res_3_D
  | res_3_E
  | res_3_H
  | res_3_L
  | res_3_mHL
  | res_3_A
  | res_4_B
  | res_4_C
  | res_4_D
  | res_4_E
  | res_4_H
  | res_4_L
  | res_4_mHL
  | res_4_A
  | res_5_B
  | res_5_C
  | res_5_D
  | res_5_E
  | res_5_H
  | res_5_L
  | res_5_mHL
  | res_5_A
  | res_6_B
  | res_6_C
  | res_6_D
  | res_6_E
  | res_6_H
  | res_6_L
  | res_6_mHL
  | res_6_A
  | res_7_B
  | res_7_C
  | res_7_D
  | res_7_E
  | res_7_H
  | res_7_L
  | res_7_mHL
  | res_7_A
  | set_0_B
  | set_0_C
  | set_0_D
  | set_0_E
  | set_0_H
  | set_0_L
  | set_0_mHL
  | set_0_A
  | set_1_B
  | set_1_C
  | set_1_D
  | set_1_E
  | set_1_H
  | set_1_L
  | set_1_mHL
  | set_1_A
  | set_2_B
  | set_2_C
  | set_2_D
  | set_2_E
  | set_2_H
  | set_2_L
  | set_2_mHL
  | set_2_A
  | set_3_B
  | set_3_C
  | set_3_D
  | set_3_E
  | set_3_H
  | set_3_L
  | set_3_mHL
  | set_3_A
  | set_4_B
  | set_4_C
  | set_4_D
  | set_4_E
  | set_4_H
  | set_4_L
  | set_4_mHL
  | set_4_A
  | set_5_B
  | set_5_C
  | set_5_D
  | set_5_E
  | set_5_H
  | set_5_L
  | set_5_mHL
  | set_5_A
  | set_6_B
  | set_6_C
  | set_6_D
  | set_6_E
  | set_6_H
  | set_6_L
  | set_6_mHL
  | set_6_A
  | set_7_B
  | set_7_C
  | set_7_D
  | set_7_E
  | set_7_H
  | set_7_L
  | set_7_mHL
  | set_7_A
  deriving DecidableEq, Repr

namespace Instr

/-- `LD r,r'` (R100): destination, source. -/
def ldRegReg (d : Reg8) (r : Reg8) : Instr :=
  match d, r with
  | .B, .B => .ld_B_B
  | .B, .C => .ld_B_C
  | .B, .D => .ld_B_D
  | .B, .E => .ld_B_E
  | .B, .H => .ld_B_H
  | .B, .L => .ld_B_L
  | .B, .A => .ld_B_A
  | .C, .B => .ld_C_B
  | .C, .C => .ld_C_C
  | .C, .D => .ld_C_D
  | .C, .E => .ld_C_E
  | .C, .H => .ld_C_H
  | .C, .L => .ld_C_L
  | .C, .A => .ld_C_A
  | .D, .B => .ld_D_B
  | .D, .C => .ld_D_C
  | .D, .D => .ld_D_D
  | .D, .E => .ld_D_E
  | .D, .H => .ld_D_H
  | .D, .L => .ld_D_L
  | .D, .A => .ld_D_A
  | .E, .B => .ld_E_B
  | .E, .C => .ld_E_C
  | .E, .D => .ld_E_D
  | .E, .E => .ld_E_E
  | .E, .H => .ld_E_H
  | .E, .L => .ld_E_L
  | .E, .A => .ld_E_A
  | .H, .B => .ld_H_B
  | .H, .C => .ld_H_C
  | .H, .D => .ld_H_D
  | .H, .E => .ld_H_E
  | .H, .H => .ld_H_H
  | .H, .L => .ld_H_L
  | .H, .A => .ld_H_A
  | .L, .B => .ld_L_B
  | .L, .C => .ld_L_C
  | .L, .D => .ld_L_D
  | .L, .E => .ld_L_E
  | .L, .H => .ld_L_H
  | .L, .L => .ld_L_L
  | .L, .A => .ld_L_A
  | .A, .B => .ld_A_B
  | .A, .C => .ld_A_C
  | .A, .D => .ld_A_D
  | .A, .E => .ld_A_E
  | .A, .H => .ld_A_H
  | .A, .L => .ld_A_L
  | .A, .A => .ld_A_A

/-- `LD r,d8` (R101). -/
def ldRegImm (d : Reg8) (v : Byte) : Instr :=
  match d with
  | .B => .ld_B_d8 v
  | .C => .ld_C_d8 v
  | .D => .ld_D_d8 v
  | .E => .ld_E_d8 v
  | .H => .ld_H_d8 v
  | .L => .ld_L_d8 v
  | .A => .ld_A_d8 v

/-- `LD r,(HL)` (R102). -/
def ldRegHL (d : Reg8) : Instr :=
  match d with
  | .B => .ld_B_mHL
  | .C => .ld_C_mHL
  | .D => .ld_D_mHL
  | .E => .ld_E_mHL
  | .H => .ld_H_mHL
  | .L => .ld_L_mHL
  | .A => .ld_A_mHL

/-- `LD (HL),r` (R103). -/
def ldHLReg (r : Reg8) : Instr :=
  match r with
  | .B => .ld_mHL_B
  | .C => .ld_mHL_C
  | .D => .ld_mHL_D
  | .E => .ld_mHL_E
  | .H => .ld_mHL_H
  | .L => .ld_mHL_L
  | .A => .ld_mHL_A

/-- `LD rr,d16` (R132). -/
def ldPairImm (p : Pair) (v : Word) : Instr :=
  match p with
  | .BC => .ld_BC_d16 v
  | .DE => .ld_DE_d16 v
  | .HL => .ld_HL_d16 v
  | .SP => .ld_SP_d16 v

/-- `PUSH rr` (R136). -/
def pushRow (p : StackPair) : Instr :=
  match p with
  | .BC => .push_BC
  | .DE => .push_DE
  | .HL => .push_HL
  | .AF => .push_AF

/-- `POP rr` (R137). -/
def popRow (p : StackPair) : Instr :=
  match p with
  | .BC => .pop_BC
  | .DE => .pop_DE
  | .HL => .pop_HL
  | .AF => .pop_AF

/-- The eight operations on A with `r8[z]` (R152). -/
def aluLoc (op : AluOp) (x : Loc8) : Instr :=
  match op, x with
  | .add, .reg .B => .add_A_B
  | .add, .reg .C => .add_A_C
  | .add, .reg .D => .add_A_D
  | .add, .reg .E => .add_A_E
  | .add, .reg .H => .add_A_H
  | .add, .reg .L => .add_A_L
  | .add, .atHL => .add_A_mHL
  | .add, .reg .A => .add_A_A
  | .adc, .reg .B => .adc_A_B
  | .adc, .reg .C => .adc_A_C
  | .adc, .reg .D => .adc_A_D
  | .adc, .reg .E => .adc_A_E
  | .adc, .reg .H => .adc_A_H
  | .adc, .reg .L => .adc_A_L
  | .adc, .atHL => .adc_A_mHL
  | .adc, .reg .A => .adc_A_A
  | .sub, .reg .B => .sub_B
  | .sub, .reg .C => .sub_C
  | .sub, .reg .D => .sub_D
  | .sub, .reg .E => .sub_E
  | .sub, .reg .H => .sub_H
  | .sub, .reg .L => .sub_L
  | .sub, .atHL => .sub_mHL
  | .sub, .reg .A => .sub_A
  | .sbc, .reg .B => .sbc_A_B
  | .sbc, .reg .C => .sbc_A_C
  | .sbc, .reg .D => .sbc_A_D
  | .sbc, .reg .E => .sbc_A_E
  | .sbc, .reg .H => .sbc_A_H
  | .sbc, .reg .L => .sbc_A_L
  | .sbc, .atHL => .sbc_A_mHL
  | .sbc, .reg .A => .sbc_A_A
  | .and, .reg .B => .and_B
  | .and, .reg .C => .and_C
  | .and, .reg .D => .and_D
  | .and, .reg .E => .and_E
  | .and, .reg .H => .and_H
  | .and, .reg .L => .and_L
  | .and, .atHL => .and_mHL
  | .and, .reg .A => .and_A
  | .xor, .reg .B => .xor_B
  | .xor, .reg .C => .xor_C
  | .xor, .reg .D => .xor_D
  | .xor, .reg .E => .xor_E
  | .xor, .reg .H => .xor_H
  | .xor, .reg .L => .xor_L
  | .xor, .atHL => .xor_mHL
  | .xor, .reg .A => .xor_A
  | .or, .reg .B => .or_B
  | .or, .reg .C => .or_C
  | .or, .reg .D => .or_D
  | .or, .reg .E => .or_E
  | .or, .reg .H => .or_H
  | .or, .reg .L => .or_L
  | .or, .atHL => .or_mHL
  | .or, .reg .A => .or_A
  | .cp, .reg .B => .cp_B
  | .cp, .reg .C => .cp_C
  | .cp, .reg .D => .cp_D
  | .cp, .reg .E => .cp_E
  | .cp, .reg .H => .cp_H
  | .cp, .reg .L => .cp_L
  | .cp, .atHL => .cp_mHL
  | .cp, .reg .A => .cp_A

/-- The eight operations on A with `d8` (R152). -/
def aluImm (op : AluOp) (v : Byte) : Instr :=
  match op with
  | .add => .add_A_d8 v
  | .adc => .adc_A_d8 v
  | .sub => .sub_d8 v
  | .sbc => .sbc_A_d8 v
  | .and => .and_d8 v
  | .xor => .xor_d8 v
  | .or => .or_d8 v
  | .cp => .cp_d8 v

/-- `INC r8[y]` (R169, R170). -/
def incLoc (x : Loc8) : Instr :=
  match x with
  | .reg .B => .inc_B
  | .reg .C => .inc_C
  | .reg .D => .inc_D
  | .reg .E => .inc_E
  | .reg .H => .inc_H
  | .reg .L => .inc_L
  | .atHL => .inc_mHL
  | .reg .A => .inc_A

/-- `DEC r8[y]` (R171, R172). -/
def decLoc (x : Loc8) : Instr :=
  match x with
  | .reg .B => .dec_B
  | .reg .C => .dec_C
  | .reg .D => .dec_D
  | .reg .E => .dec_E
  | .reg .H => .dec_H
  | .reg .L => .dec_L
  | .atHL => .dec_mHL
  | .reg .A => .dec_A

/-- `ADD HL,rr` (R190). -/
def addHLPair (p : Pair) : Instr :=
  match p with
  | .BC => .add_HL_BC
  | .DE => .add_HL_DE
  | .HL => .add_HL_HL
  | .SP => .add_HL_SP

/-- `INC rr` (R191). -/
def incPair (p : Pair) : Instr :=
  match p with
  | .BC => .inc_BC
  | .DE => .inc_DE
  | .HL => .inc_HL
  | .SP => .inc_SP

/-- `DEC rr` (R192). -/
def decPair (p : Pair) : Instr :=
  match p with
  | .BC => .dec_BC
  | .DE => .dec_DE
  | .HL => .dec_HL
  | .SP => .dec_SP

/-- The CB-prefixed rotates, shifts and SWAP (R213 to R220). -/
def rotLoc (op : RotOp) (x : Loc8) : Instr :=
  match op, x with
  | .rlc, .reg .B => .rlc_B
  | .rlc, .reg .C => .rlc_C
  | .rlc, .reg .D => .rlc_D
  | .rlc, .reg .E => .rlc_E
  | .rlc, .reg .H => .rlc_H
  | .rlc, .reg .L => .rlc_L
  | .rlc, .atHL => .rlc_mHL
  | .rlc, .reg .A => .rlc_A
  | .rrc, .reg .B => .rrc_B
  | .rrc, .reg .C => .rrc_C
  | .rrc, .reg .D => .rrc_D
  | .rrc, .reg .E => .rrc_E
  | .rrc, .reg .H => .rrc_H
  | .rrc, .reg .L => .rrc_L
  | .rrc, .atHL => .rrc_mHL
  | .rrc, .reg .A => .rrc_A
  | .rl, .reg .B => .rl_B
  | .rl, .reg .C => .rl_C
  | .rl, .reg .D => .rl_D
  | .rl, .reg .E => .rl_E
  | .rl, .reg .H => .rl_H
  | .rl, .reg .L => .rl_L
  | .rl, .atHL => .rl_mHL
  | .rl, .reg .A => .rl_A
  | .rr, .reg .B => .rr_B
  | .rr, .reg .C => .rr_C
  | .rr, .reg .D => .rr_D
  | .rr, .reg .E => .rr_E
  | .rr, .reg .H => .rr_H
  | .rr, .reg .L => .rr_L
  | .rr, .atHL => .rr_mHL
  | .rr, .reg .A => .rr_A
  | .sla, .reg .B => .sla_B
  | .sla, .reg .C => .sla_C
  | .sla, .reg .D => .sla_D
  | .sla, .reg .E => .sla_E
  | .sla, .reg .H => .sla_H
  | .sla, .reg .L => .sla_L
  | .sla, .atHL => .sla_mHL
  | .sla, .reg .A => .sla_A
  | .sra, .reg .B => .sra_B
  | .sra, .reg .C => .sra_C
  | .sra, .reg .D => .sra_D
  | .sra, .reg .E => .sra_E
  | .sra, .reg .H => .sra_H
  | .sra, .reg .L => .sra_L
  | .sra, .atHL => .sra_mHL
  | .sra, .reg .A => .sra_A
  | .swap, .reg .B => .swap_B
  | .swap, .reg .C => .swap_C
  | .swap, .reg .D => .swap_D
  | .swap, .reg .E => .swap_E
  | .swap, .reg .H => .swap_H
  | .swap, .reg .L => .swap_L
  | .swap, .atHL => .swap_mHL
  | .swap, .reg .A => .swap_A
  | .srl, .reg .B => .srl_B
  | .srl, .reg .C => .srl_C
  | .srl, .reg .D => .srl_D
  | .srl, .reg .E => .srl_E
  | .srl, .reg .H => .srl_H
  | .srl, .reg .L => .srl_L
  | .srl, .atHL => .srl_mHL
  | .srl, .reg .A => .srl_A

/-- `BIT b,r` (R221). -/
def bitLoc (b : BitIdx) (x : Loc8) : Instr :=
  match b, x with
  | .b0, .reg .B => .bit_0_B
  | .b0, .reg .C => .bit_0_C
  | .b0, .reg .D => .bit_0_D
  | .b0, .reg .E => .bit_0_E
  | .b0, .reg .H => .bit_0_H
  | .b0, .reg .L => .bit_0_L
  | .b0, .atHL => .bit_0_mHL
  | .b0, .reg .A => .bit_0_A
  | .b1, .reg .B => .bit_1_B
  | .b1, .reg .C => .bit_1_C
  | .b1, .reg .D => .bit_1_D
  | .b1, .reg .E => .bit_1_E
  | .b1, .reg .H => .bit_1_H
  | .b1, .reg .L => .bit_1_L
  | .b1, .atHL => .bit_1_mHL
  | .b1, .reg .A => .bit_1_A
  | .b2, .reg .B => .bit_2_B
  | .b2, .reg .C => .bit_2_C
  | .b2, .reg .D => .bit_2_D
  | .b2, .reg .E => .bit_2_E
  | .b2, .reg .H => .bit_2_H
  | .b2, .reg .L => .bit_2_L
  | .b2, .atHL => .bit_2_mHL
  | .b2, .reg .A => .bit_2_A
  | .b3, .reg .B => .bit_3_B
  | .b3, .reg .C => .bit_3_C
  | .b3, .reg .D => .bit_3_D
  | .b3, .reg .E => .bit_3_E
  | .b3, .reg .H => .bit_3_H
  | .b3, .reg .L => .bit_3_L
  | .b3, .atHL => .bit_3_mHL
  | .b3, .reg .A => .bit_3_A
  | .b4, .reg .B => .bit_4_B
  | .b4, .reg .C => .bit_4_C
  | .b4, .reg .D => .bit_4_D
  | .b4, .reg .E => .bit_4_E
  | .b4, .reg .H => .bit_4_H
  | .b4, .reg .L => .bit_4_L
  | .b4, .atHL => .bit_4_mHL
  | .b4, .reg .A => .bit_4_A
  | .b5, .reg .B => .bit_5_B
  | .b5, .reg .C => .bit_5_C
  | .b5, .reg .D => .bit_5_D
  | .b5, .reg .E => .bit_5_E
  | .b5, .reg .H => .bit_5_H
  | .b5, .reg .L => .bit_5_L
  | .b5, .atHL => .bit_5_mHL
  | .b5, .reg .A => .bit_5_A
  | .b6, .reg .B => .bit_6_B
  | .b6, .reg .C => .bit_6_C
  | .b6, .reg .D => .bit_6_D
  | .b6, .reg .E => .bit_6_E
  | .b6, .reg .H => .bit_6_H
  | .b6, .reg .L => .bit_6_L
  | .b6, .atHL => .bit_6_mHL
  | .b6, .reg .A => .bit_6_A
  | .b7, .reg .B => .bit_7_B
  | .b7, .reg .C => .bit_7_C
  | .b7, .reg .D => .bit_7_D
  | .b7, .reg .E => .bit_7_E
  | .b7, .reg .H => .bit_7_H
  | .b7, .reg .L => .bit_7_L
  | .b7, .atHL => .bit_7_mHL
  | .b7, .reg .A => .bit_7_A

/-- `RES b,r` (R222). -/
def resLoc (b : BitIdx) (x : Loc8) : Instr :=
  match b, x with
  | .b0, .reg .B => .res_0_B
  | .b0, .reg .C => .res_0_C
  | .b0, .reg .D => .res_0_D
  | .b0, .reg .E => .res_0_E
  | .b0, .reg .H => .res_0_H
  | .b0, .reg .L => .res_0_L
  | .b0, .atHL => .res_0_mHL
  | .b0, .reg .A => .res_0_A
  | .b1, .reg .B => .res_1_B
  | .b1, .reg .C => .res_1_C
  | .b1, .reg .D => .res_1_D
  | .b1, .reg .E => .res_1_E
  | .b1, .reg .H => .res_1_H
  | .b1, .reg .L => .res_1_L
  | .b1, .atHL => .res_1_mHL
  | .b1, .reg .A => .res_1_A
  | .b2, .reg .B => .res_2_B
  | .b2, .reg .C => .res_2_C
  | .b2, .reg .D => .res_2_D
  | .b2, .reg .E => .res_2_E
  | .b2, .reg .H => .res_2_H
  | .b2, .reg .L => .res_2_L
  | .b2, .atHL => .res_2_mHL
  | .b2, .reg .A => .res_2_A
  | .b3, .reg .B => .res_3_B
  | .b3, .reg .C => .res_3_C
  | .b3, .reg .D => .res_3_D
  | .b3, .reg .E => .res_3_E
  | .b3, .reg .H => .res_3_H
  | .b3, .reg .L => .res_3_L
  | .b3, .atHL => .res_3_mHL
  | .b3, .reg .A => .res_3_A
  | .b4, .reg .B => .res_4_B
  | .b4, .reg .C => .res_4_C
  | .b4, .reg .D => .res_4_D
  | .b4, .reg .E => .res_4_E
  | .b4, .reg .H => .res_4_H
  | .b4, .reg .L => .res_4_L
  | .b4, .atHL => .res_4_mHL
  | .b4, .reg .A => .res_4_A
  | .b5, .reg .B => .res_5_B
  | .b5, .reg .C => .res_5_C
  | .b5, .reg .D => .res_5_D
  | .b5, .reg .E => .res_5_E
  | .b5, .reg .H => .res_5_H
  | .b5, .reg .L => .res_5_L
  | .b5, .atHL => .res_5_mHL
  | .b5, .reg .A => .res_5_A
  | .b6, .reg .B => .res_6_B
  | .b6, .reg .C => .res_6_C
  | .b6, .reg .D => .res_6_D
  | .b6, .reg .E => .res_6_E
  | .b6, .reg .H => .res_6_H
  | .b6, .reg .L => .res_6_L
  | .b6, .atHL => .res_6_mHL
  | .b6, .reg .A => .res_6_A
  | .b7, .reg .B => .res_7_B
  | .b7, .reg .C => .res_7_C
  | .b7, .reg .D => .res_7_D
  | .b7, .reg .E => .res_7_E
  | .b7, .reg .H => .res_7_H
  | .b7, .reg .L => .res_7_L
  | .b7, .atHL => .res_7_mHL
  | .b7, .reg .A => .res_7_A

/-- `SET b,r` (R223). -/
def setLoc (b : BitIdx) (x : Loc8) : Instr :=
  match b, x with
  | .b0, .reg .B => .set_0_B
  | .b0, .reg .C => .set_0_C
  | .b0, .reg .D => .set_0_D
  | .b0, .reg .E => .set_0_E
  | .b0, .reg .H => .set_0_H
  | .b0, .reg .L => .set_0_L
  | .b0, .atHL => .set_0_mHL
  | .b0, .reg .A => .set_0_A
  | .b1, .reg .B => .set_1_B
  | .b1, .reg .C => .set_1_C
  | .b1, .reg .D => .set_1_D
  | .b1, .reg .E => .set_1_E
  | .b1, .reg .H => .set_1_H
  | .b1, .reg .L => .set_1_L
  | .b1, .atHL => .set_1_mHL
  | .b1, .reg .A => .set_1_A
  | .b2, .reg .B => .set_2_B
  | .b2, .reg .C => .set_2_C
  | .b2, .reg .D => .set_2_D
  | .b2, .reg .E => .set_2_E
  | .b2, .reg .H => .set_2_H
  | .b2, .reg .L => .set_2_L
  | .b2, .atHL => .set_2_mHL
  | .b2, .reg .A => .set_2_A
  | .b3, .reg .B => .set_3_B
  | .b3, .reg .C => .set_3_C
  | .b3, .reg .D => .set_3_D
  | .b3, .reg .E => .set_3_E
  | .b3, .reg .H => .set_3_H
  | .b3, .reg .L => .set_3_L
  | .b3, .atHL => .set_3_mHL
  | .b3, .reg .A => .set_3_A
  | .b4, .reg .B => .set_4_B
  | .b4, .reg .C => .set_4_C
  | .b4, .reg .D => .set_4_D
  | .b4, .reg .E => .set_4_E
  | .b4, .reg .H => .set_4_H
  | .b4, .reg .L => .set_4_L
  | .b4, .atHL => .set_4_mHL
  | .b4, .reg .A => .set_4_A
  | .b5, .reg .B => .set_5_B
  | .b5, .reg .C => .set_5_C
  | .b5, .reg .D => .set_5_D
  | .b5, .reg .E => .set_5_E
  | .b5, .reg .H => .set_5_H
  | .b5, .reg .L => .set_5_L
  | .b5, .atHL => .set_5_mHL
  | .b5, .reg .A => .set_5_A
  | .b6, .reg .B => .set_6_B
  | .b6, .reg .C => .set_6_C
  | .b6, .reg .D => .set_6_D
  | .b6, .reg .E => .set_6_E
  | .b6, .reg .H => .set_6_H
  | .b6, .reg .L => .set_6_L
  | .b6, .atHL => .set_6_mHL
  | .b6, .reg .A => .set_6_A
  | .b7, .reg .B => .set_7_B
  | .b7, .reg .C => .set_7_C
  | .b7, .reg .D => .set_7_D
  | .b7, .reg .E => .set_7_E
  | .b7, .reg .H => .set_7_H
  | .b7, .reg .L => .set_7_L
  | .b7, .atHL => .set_7_mHL
  | .b7, .reg .A => .set_7_A

/-- `JP cc,a16` (R232). -/
def jpCond (cc : Cond) (v : Word) : Instr :=
  match cc with
  | .NZ => .jp_NZ_a16 v
  | .Z => .jp_Z_a16 v
  | .NC => .jp_NC_a16 v
  | .C => .jp_C_a16 v

/-- `JR cc,r8` (R235). -/
def jrCond (cc : Cond) (v : Byte) : Instr :=
  match cc with
  | .NZ => .jr_NZ_r8 v
  | .Z => .jr_Z_r8 v
  | .NC => .jr_NC_r8 v
  | .C => .jr_C_r8 v

/-- `CALL cc,a16` (R237). -/
def callCond (cc : Cond) (v : Word) : Instr :=
  match cc with
  | .NZ => .call_NZ_a16 v
  | .Z => .call_Z_a16 v
  | .NC => .call_NC_a16 v
  | .C => .call_C_a16 v

/-- `RET cc` (R239). -/
def retCond (cc : Cond) : Instr :=
  match cc with
  | .NZ => .ret_NZ
  | .Z => .ret_Z
  | .NC => .ret_NC
  | .C => .ret_C

/-- `RST n` (R241). -/
def rstRow (t : RstTarget) : Instr :=
  match t with
  | .t00 => .rst_00
  | .t08 => .rst_08
  | .t10 => .rst_10
  | .t18 => .rst_18
  | .t20 => .rst_20
  | .t28 => .rst_28
  | .t30 => .rst_30
  | .t38 => .rst_38

/-- The eleven illegal opcodes (R256). -/
def illegalRow (k : IllegalOp) : Instr :=
  match k with
  | .xD3 => .illegal_D3
  | .xDB => .illegal_DB
  | .xDD => .illegal_DD
  | .xE3 => .illegal_E3
  | .xE4 => .illegal_E4
  | .xEB => .illegal_EB
  | .xEC => .illegal_EC
  | .xED => .illegal_ED
  | .xF4 => .illegal_F4
  | .xFC => .illegal_FC
  | .xFD => .illegal_FD

end Instr

end Sys2Proof
end

