-- ==== Sys2Proof/Decode.lean ====
section
/-! DEFINITION. The decoder (30_encoding R70, R77, R78, R80), total on any bytes, and the encoder. -/

namespace Sys2Proof

/-! ## Field values (R73, R74) -/

/-- `r8[i]` (R73). -/
def Loc8.ofIndex : Nat → Loc8
  | 0 => .reg .B
  | 1 => .reg .C
  | 2 => .reg .D
  | 3 => .reg .E
  | 4 => .reg .H
  | 5 => .reg .L
  | 6 => .atHL
  | _ => .reg .A

/-- `rot` (R74). -/
def RotOp.ofIndex : Nat → RotOp
  | 0 => .rlc
  | 1 => .rrc
  | 2 => .rl
  | 3 => .rr
  | 4 => .sla
  | 5 => .sra
  | 6 => .swap
  | _ => .srl

/-- The bit index of field y (R74). -/
def BitIdx.ofIndex : Nat → BitIdx
  | 0 => .b0
  | 1 => .b1
  | 2 => .b2
  | 3 => .b3
  | 4 => .b4
  | 5 => .b5
  | 6 => .b6
  | _ => .b7

/-- The number of a bit (R74). -/
def BitIdx.index : BitIdx → Nat
  | .b0 => 0
  | .b1 => 1
  | .b2 => 2
  | .b3 => 3
  | .b4 => 4
  | .b5 => 5
  | .b6 => 6
  | .b7 => 7

/-- The address `y * 8` of an RST (R74, R241). -/
def RstTarget.address : RstTarget → Word
  | .t00 => 0x0000
  | .t08 => 0x0008
  | .t10 => 0x0010
  | .t18 => 0x0018
  | .t20 => 0x0020
  | .t28 => 0x0028
  | .t30 => 0x0030
  | .t38 => 0x0038

/-- The opcode byte of an illegal opcode (R79). -/
def IllegalOp.opcode : IllegalOp → Byte
  | .xD3 => 0xD3
  | .xDB => 0xDB
  | .xDD => 0xDD
  | .xE3 => 0xE3
  | .xE4 => 0xE4
  | .xEB => 0xEB
  | .xEC => 0xEC
  | .xED => 0xED
  | .xF4 => 0xF4
  | .xFC => 0xFC
  | .xFD => 0xFD

/-! ## The tables -/

/-- The instruction behind the prefix byte, by the fields x, y, z of the sub-opcode (R71, R78). -/
def cbInstr (sub : Byte) : Instr :=
  let y := sub.toNat / 8 % 8
  let z := Loc8.ofIndex (sub.toNat % 8)
  match sub.toNat / 64 with
  | 0 => .rotLoc (RotOp.ofIndex y) z
  | 1 => .bitLoc (BitIdx.ofIndex y) z
  | 2 => .resLoc (BitIdx.ofIndex y) z
  | _ => .setLoc (BitIdx.ofIndex y) z

/-- A cell of the unprefixed table (R77): an instruction that is complete, one that takes a byte, one that
takes a 16-bit operand, or the byte that selects the second table. -/
inductive Cell where
  | op (i : Instr)
  | withByte (f : Byte → Instr)
  | withWord (f : Word → Instr)
  | second

/-- Row 0x of R77. -/
def opcodeRow0 : List Cell :=
  [.op .nop, .withWord .ld_BC_d16, .op .ld_mBC_A, .op .inc_BC,
   .op .inc_B, .op .dec_B, .withByte .ld_B_d8, .op .rlca,
   .withWord .ld_ma16_SP, .op .add_HL_BC, .op .ld_A_mBC, .op .dec_BC,
   .op .inc_C, .op .dec_C, .withByte .ld_C_d8, .op .rrca]

/-- Row 1x of R77. -/
def opcodeRow1 : List Cell :=
  [.withByte .stop, .withWord .ld_DE_d16, .op .ld_mDE_A, .op .inc_DE,
   .op .inc_D, .op .dec_D, .withByte .ld_D_d8, .op .rla,
   .withByte .jr_r8, .op .add_HL_DE, .op .ld_A_mDE, .op .dec_DE,
   .op .inc_E, .op .dec_E, .withByte .ld_E_d8, .op .rra]

/-- Row 2x of R77. -/
def opcodeRow2 : List Cell :=
  [.withByte .jr_NZ_r8, .withWord .ld_HL_d16, .op .ld_mHLi_A, .op .inc_HL,
   .op .inc_H, .op .dec_H, .withByte .ld_H_d8, .op .daa,
   .withByte .jr_Z_r8, .op .add_HL_HL, .op .ld_A_mHLi, .op .dec_HL,
   .op .inc_L, .op .dec_L, .withByte .ld_L_d8, .op .cpl]

/-- Row 3x of R77. -/
def opcodeRow3 : List Cell :=
  [.withByte .jr_NC_r8, .withWord .ld_SP_d16, .op .ld_mHLd_A, .op .inc_SP,
   .op .inc_mHL, .op .dec_mHL, .withByte .ld_mHL_d8, .op .scf,
   .withByte .jr_C_r8, .op .add_HL_SP, .op .ld_A_mHLd, .op .dec_SP,
   .op .inc_A, .op .dec_A, .withByte .ld_A_d8, .op .ccf]

/-- Row 4x of R77. -/
def opcodeRow4 : List Cell :=
  [.op .ld_B_B, .op .ld_B_C, .op .ld_B_D, .op .ld_B_E,
   .op .ld_B_H, .op .ld_B_L, .op .ld_B_mHL, .op .ld_B_A,
   .op .ld_C_B, .op .ld_C_C, .op .ld_C_D, .op .ld_C_E,
   .op .ld_C_H, .op .ld_C_L, .op .ld_C_mHL, .op .ld_C_A]

/-- Row 5x of R77. -/
def opcodeRow5 : List Cell :=
  [.op .ld_D_B, .op .ld_D_C, .op .ld_D_D, .op .ld_D_E,
   .op .ld_D_H, .op .ld_D_L, .op .ld_D_mHL, .op .ld_D_A,
   .op .ld_E_B, .op .ld_E_C, .op .ld_E_D, .op .ld_E_E,
   .op .ld_E_H, .op .ld_E_L, .op .ld_E_mHL, .op .ld_E_A]

/-- Row 6x of R77. -/
def opcodeRow6 : List Cell :=
  [.op .ld_H_B, .op .ld_H_C, .op .ld_H_D, .op .ld_H_E,
   .op .ld_H_H, .op .ld_H_L, .op .ld_H_mHL, .op .ld_H_A,
   .op .ld_L_B, .op .ld_L_C, .op .ld_L_D, .op .ld_L_E,
   .op .ld_L_H, .op .ld_L_L, .op .ld_L_mHL, .op .ld_L_A]

/-- Row 7x of R77. -/
def opcodeRow7 : List Cell :=
  [.op .ld_mHL_B, .op .ld_mHL_C, .op .ld_mHL_D, .op .ld_mHL_E,
   .op .ld_mHL_H, .op .ld_mHL_L, .op .halt, .op .ld_mHL_A,
   .op .ld_A_B, .op .ld_A_C, .op .ld_A_D, .op .ld_A_E,
   .op .ld_A_H, .op .ld_A_L, .op .ld_A_mHL, .op .ld_A_A]

/-- Row 8x of R77. -/
def opcodeRow8 : List Cell :=
  [.op .add_A_B, .op .add_A_C, .op .add_A_D, .op .add_A_E,
   .op .add_A_H, .op .add_A_L, .op .add_A_mHL, .op .add_A_A,
   .op .adc_A_B, .op .adc_A_C, .op .adc_A_D, .op .adc_A_E,
   .op .adc_A_H, .op .adc_A_L, .op .adc_A_mHL, .op .adc_A_A]

/-- Row 9x of R77. -/
def opcodeRow9 : List Cell :=
  [.op .sub_B, .op .sub_C, .op .sub_D, .op .sub_E,
   .op .sub_H, .op .sub_L, .op .sub_mHL, .op .sub_A,
   .op .sbc_A_B, .op .sbc_A_C, .op .sbc_A_D, .op .sbc_A_E,
   .op .sbc_A_H, .op .sbc_A_L, .op .sbc_A_mHL, .op .sbc_A_A]

/-- Row Ax of R77. -/
def opcodeRowA : List Cell :=
  [.op .and_B, .op .and_C, .op .and_D, .op .and_E,
   .op .and_H, .op .and_L, .op .and_mHL, .op .and_A,
   .op .xor_B, .op .xor_C, .op .xor_D, .op .xor_E,
   .op .xor_H, .op .xor_L, .op .xor_mHL, .op .xor_A]

/-- Row Bx of R77. -/
def opcodeRowB : List Cell :=
  [.op .or_B, .op .or_C, .op .or_D, .op .or_E,
   .op .or_H, .op .or_L, .op .or_mHL, .op .or_A,
   .op .cp_B, .op .cp_C, .op .cp_D, .op .cp_E,
   .op .cp_H, .op .cp_L, .op .cp_mHL, .op .cp_A]

/-- Row Cx of R77. -/
def opcodeRowC : List Cell :=
  [.op .ret_NZ, .op .pop_BC, .withWord .jp_NZ_a16, .withWord .jp_a16,
   .withWord .call_NZ_a16, .op .push_BC, .withByte .add_A_d8, .op .rst_00,
   .op .ret_Z, .op .ret, .withWord .jp_Z_a16, .second,
   .withWord .call_Z_a16, .withWord .call_a16, .withByte .adc_A_d8, .op .rst_08]

/-- Row Dx of R77. -/
def opcodeRowD : List Cell :=
  [.op .ret_NC, .op .pop_DE, .withWord .jp_NC_a16, .op .illegal_D3,
   .withWord .call_NC_a16, .op .push_DE, .withByte .sub_d8, .op .rst_10,
   .op .ret_C, .op .reti, .withWord .jp_C_a16, .op .illegal_DB,
   .withWord .call_C_a16, .op .illegal_DD, .withByte .sbc_A_d8, .op .rst_18]

/-- Row Ex of R77. -/
def opcodeRowE : List Cell :=
  [.withByte .ldh_ma8_A, .op .pop_HL, .op .ld_mC_A, .op .illegal_E3,
   .op .illegal_E4, .op .push_HL, .withByte .and_d8, .op .rst_20,
   .withByte .add_SP_r8, .op .jp_mHL, .withWord .ld_ma16_A, .op .illegal_EB,
   .op .illegal_EC, .op .illegal_ED, .withByte .xor_d8, .op .rst_28]

/-- Row Fx of R77. -/
def opcodeRowF : List Cell :=
  [.withByte .ldh_A_ma8, .op .pop_AF, .op .ld_A_mC, .op .di,
   .op .illegal_F4, .op .push_AF, .withByte .or_d8, .op .rst_30,
   .withByte .ld_HL_SPr8, .op .ld_SP_HL, .withWord .ld_A_ma16, .op .ei,
   .op .illegal_FC, .op .illegal_FD, .withByte .cp_d8, .op .rst_38]

/-- The grid of R77, the row by the high nibble. -/
def opcodeGrid : List (List Cell) :=
  [opcodeRow0, opcodeRow1, opcodeRow2, opcodeRow3, opcodeRow4, opcodeRow5, opcodeRow6, opcodeRow7,
   opcodeRow8, opcodeRow9, opcodeRowA, opcodeRowB, opcodeRowC, opcodeRowD, opcodeRowE, opcodeRowF]

/-- The cell of an opcode byte (R77): all 256 are in the grid. -/
def opcodeCell (opcode : Byte) : Cell :=
  (opcodeGrid.getD (opcode.toNat / 16) []).getD (opcode.toNat % 16) .second

/-! ## The decoder -/

/-- The instruction whose first three bytes are these (R80); a shorter one ignores the bytes after it. The low
byte of a 16-bit operand is the byte at PC + 1 (R72). -/
def decode3 (b0 b1 b2 : Byte) : Instr :=
  match opcodeCell b0 with
  | .op i => i
  | .withByte f => f b1
  | .withWord f => f (wordOf b2 b1)
  | .second => cbInstr b1

/-- Why a list of bytes holds no instruction. -/
inductive DecodeError where
  /-- The list is empty. -/
  | noBytes
  /-- The list ends inside the instruction that this opcode begins. -/
  | truncated (opcode : Byte)
  deriving DecidableEq, Repr

/-- Decode the first instruction of a list of bytes and return the bytes after it (R70, R80). The one byte 0xCB
with nothing after it is the table's PREFIX row (R255; log 7). -/
def decode : List Byte → Except DecodeError (Instr × List Byte)
  | [] => .error .noBytes
  | b0 :: rest =>
    match opcodeCell b0, rest with
    | .op i, rest => .ok (i, rest)
    | .withByte f, b1 :: rest => .ok (f b1, rest)
    | .withByte _, [] => .error (.truncated b0)
    | .withWord f, lo :: hi :: rest => .ok (f (wordOf hi lo), rest)
    | .withWord _, _ => .error (.truncated b0)
    | .second, sub :: rest => .ok (cbInstr sub, rest)
    | .second, [] => .ok (.prefixCb, [])

/-- The bytes of a word as spec/opcode_table.json numbers its bits: a row of one byte has it in bits 7 to 0; a
CB row has the prefix byte in bits 15 to 8 and the sub-opcode in bits 7 to 0 (the table's match value 0xCBxx);
in any other longer word the first byte is the lowest (log 6). -/
def tableBytes (nbits w : Nat) : List Byte :=
  if nbits ≤ 8 then [BitVec.ofNat 8 w]
  else if nbits ≤ 16 then
    if w / 0x100 % 0x100 = 0xCB then [0xCB, BitVec.ofNat 8 w]
    else [BitVec.ofNat 8 w, BitVec.ofNat 8 (w / 0x100)]
  else [BitVec.ofNat 8 w, BitVec.ofNat 8 (w / 0x100), BitVec.ofNat 8 (w / 0x10000)]

/-- The number of zero bytes a table word of `given` bytes lacks: the operand bytes of its row. The PREFIX row
is one byte long (R71). -/
def missingBytes (given : List Byte) : Nat :=
  match given with
  | [] => 0
  | b0 :: _ =>
    match opcodeCell b0 with
    | .op _ => 0
    | .withByte _ => 2 - given.length
    | .withWord _ => 3 - given.length
    | .second => 0

/-- What the decoder reads from a word of the opcode table, its operand bytes zero where the table gives them no
bits (log 6). -/
def decodeTableWord (nbits w : Nat) : Option Instr :=
  let given := tableBytes nbits w
  match decode (given ++ List.replicate (missingBytes given) 0) with
  | .ok (i, _) => some i
  | .error _ => none

/-! ## The encoder -/

/-- The bytes of an instruction (R71, R77, R78), written from the opcode table's match values; 16-bit operands
low byte first (R72). -/
def encode (i : Instr) : List Byte :=
  match i with
  | .nop => [0x00]
  | .ld_BC_d16 d16 => [0x01, loByte d16, hiByte d16]
  | .ld_mBC_A => [0x02]
  | .inc_BC => [0x03]
  | .inc_B => [0x04]
  | .dec_B => [0x05]
  | .ld_B_d8 d8 => [0x06, d8]
  | .rlca => [0x07]
  | .ld_ma16_SP a16 => [0x08, loByte a16, hiByte a16]
  | .add_HL_BC => [0x09]
  | .ld_A_mBC => [0x0A]
  | .dec_BC => [0x0B]
  | .inc_C => [0x0C]
  | .dec_C => [0x0D]
  | .ld_C_d8 d8 => [0x0E, d8]
  | .rrca => [0x0F]
  | .stop pad => [0x10, pad]
  | .ld_DE_d16 d16 => [0x11, loByte d16, hiByte d16]
  | .ld_mDE_A => [0x12]
  | .inc_DE => [0x13]
  | .inc_D => [0x14]
  | .dec_D => [0x15]
  | .ld_D_d8 d8 => [0x16, d8]
  | .rla => [0x17]
  | .jr_r8 r8 => [0x18, r8]
  | .add_HL_DE => [0x19]
  | .ld_A_mDE => [0x1A]
  | .dec_DE => [0x1B]
  | .inc_E => [0x1C]
  | .dec_E => [0x1D]
  | .ld_E_d8 d8 => [0x1E, d8]
  | .rra => [0x1F]
  | .jr_NZ_r8 r8 => [0x20, r8]
  | .ld_HL_d16 d16 => [0x21, loByte d16, hiByte d16]
  | .ld_mHLi_A => [0x22]
  | .inc_HL => [0x23]
  | .inc_H => [0x24]
  | .dec_H => [0x25]
  | .ld_H_d8 d8 => [0x26, d8]
  | .daa => [0x27]
  | .jr_Z_r8 r8 => [0x28, r8]
  | .add_HL_HL => [0x29]
  | .ld_A_mHLi => [0x2A]
  | .dec_HL => [0x2B]
  | .inc_L => [0x2C]
  | .dec_L => [0x2D]
  | .ld_L_d8 d8 => [0x2E, d8]
  | .cpl => [0x2F]
  | .jr_NC_r8 r8 => [0x30, r8]
  | .ld_SP_d16 d16 => [0x31, loByte d16, hiByte d16]
  | .ld_mHLd_A => [0x32]
  | .inc_SP => [0x33]
  | .inc_mHL => [0x34]
  | .dec_mHL => [0x35]
  | .ld_mHL_d8 d8 => [0x36, d8]
  | .scf => [0x37]
  | .jr_C_r8 r8 => [0x38, r8]
  | .add_HL_SP => [0x39]
  | .ld_A_mHLd => [0x3A]
  | .dec_SP => [0x3B]
  | .inc_A => [0x3C]
  | .dec_A => [0x3D]
  | .ld_A_d8 d8 => [0x3E, d8]
  | .ccf => [0x3F]
  | .ld_B_B => [0x40]
  | .ld_B_C => [0x41]
  | .ld_B_D => [0x42]
  | .ld_B_E => [0x43]
  | .ld_B_H => [0x44]
  | .ld_B_L => [0x45]
  | .ld_B_mHL => [0x46]
  | .ld_B_A => [0x47]
  | .ld_C_B => [0x48]
  | .ld_C_C => [0x49]
  | .ld_C_D => [0x4A]
  | .ld_C_E => [0x4B]
  | .ld_C_H => [0x4C]
  | .ld_C_L => [0x4D]
  | .ld_C_mHL => [0x4E]
  | .ld_C_A => [0x4F]
  | .ld_D_B => [0x50]
  | .ld_D_C => [0x51]
  | .ld_D_D => [0x52]
  | .ld_D_E => [0x53]
  | .ld_D_H => [0x54]
  | .ld_D_L => [0x55]
  | .ld_D_mHL => [0x56]
  | .ld_D_A => [0x57]
  | .ld_E_B => [0x58]
  | .ld_E_C => [0x59]
  | .ld_E_D => [0x5A]
  | .ld_E_E => [0x5B]
  | .ld_E_H => [0x5C]
  | .ld_E_L => [0x5D]
  | .ld_E_mHL => [0x5E]
  | .ld_E_A => [0x5F]
  | .ld_H_B => [0x60]
  | .ld_H_C => [0x61]
  | .ld_H_D => [0x62]
  | .ld_H_E => [0x63]
  | .ld_H_H => [0x64]
  | .ld_H_L => [0x65]
  | .ld_H_mHL => [0x66]
  | .ld_H_A => [0x67]
  | .ld_L_B => [0x68]
  | .ld_L_C => [0x69]
  | .ld_L_D => [0x6A]
  | .ld_L_E => [0x6B]
  | .ld_L_H => [0x6C]
  | .ld_L_L => [0x6D]
  | .ld_L_mHL => [0x6E]
  | .ld_L_A => [0x6F]
  | .ld_mHL_B => [0x70]
  | .ld_mHL_C => [0x71]
  | .ld_mHL_D => [0x72]
  | .ld_mHL_E => [0x73]
  | .ld_mHL_H => [0x74]
  | .ld_mHL_L => [0x75]
  | .halt => [0x76]
  | .ld_mHL_A => [0x77]
  | .ld_A_B => [0x78]
  | .ld_A_C => [0x79]
  | .ld_A_D => [0x7A]
  | .ld_A_E => [0x7B]
  | .ld_A_H => [0x7C]
  | .ld_A_L => [0x7D]
  | .ld_A_mHL => [0x7E]
  | .ld_A_A => [0x7F]
  | .add_A_B => [0x80]
  | .add_A_C => [0x81]
  | .add_A_D => [0x82]
  | .add_A_E => [0x83]
  | .add_A_H => [0x84]
  | .add_A_L => [0x85]
  | .add_A_mHL => [0x86]
  | .add_A_A => [0x87]
  | .adc_A_B => [0x88]
  | .adc_A_C => [0x89]
  | .adc_A_D => [0x8A]
  | .adc_A_E => [0x8B]
  | .adc_A_H => [0x8C]
  | .adc_A_L => [0x8D]
  | .adc_A_mHL => [0x8E]
  | .adc_A_A => [0x8F]
  | .sub_B => [0x90]
  | .sub_C => [0x91]
  | .sub_D => [0x92]
  | .sub_E => [0x93]
  | .sub_H => [0x94]
  | .sub_L => [0x95]
  | .sub_mHL => [0x96]
  | .sub_A => [0x97]
  | .sbc_A_B => [0x98]
  | .sbc_A_C => [0x99]
  | .sbc_A_D => [0x9A]
  | .sbc_A_E => [0x9B]
  | .sbc_A_H => [0x9C]
  | .sbc_A_L => [0x9D]
  | .sbc_A_mHL => [0x9E]
  | .sbc_A_A => [0x9F]
  | .and_B => [0xA0]
  | .and_C => [0xA1]
  | .and_D => [0xA2]
  | .and_E => [0xA3]
  | .and_H => [0xA4]
  | .and_L => [0xA5]
  | .and_mHL => [0xA6]
  | .and_A => [0xA7]
  | .xor_B => [0xA8]
  | .xor_C => [0xA9]
  | .xor_D => [0xAA]
  | .xor_E => [0xAB]
  | .xor_H => [0xAC]
  | .xor_L => [0xAD]
  | .xor_mHL => [0xAE]
  | .xor_A => [0xAF]
  | .or_B => [0xB0]
  | .or_C => [0xB1]
  | .or_D => [0xB2]
  | .or_E => [0xB3]
  | .or_H => [0xB4]
  | .or_L => [0xB5]
  | .or_mHL => [0xB6]
  | .or_A => [0xB7]
  | .cp_B => [0xB8]
  | .cp_C => [0xB9]
  | .cp_D => [0xBA]
  | .cp_E => [0xBB]
  | .cp_H => [0xBC]
  | .cp_L => [0xBD]
  | .cp_mHL => [0xBE]
  | .cp_A => [0xBF]
  | .ret_NZ => [0xC0]
  | .pop_BC => [0xC1]
  | .jp_NZ_a16 a16 => [0xC2, loByte a16, hiByte a16]
  | .jp_a16 a16 => [0xC3, loByte a16, hiByte a16]
  | .call_NZ_a16 a16 => [0xC4, loByte a16, hiByte a16]
  | .push_BC => [0xC5]
  | .add_A_d8 d8 => [0xC6, d8]
  | .rst_00 => [0xC7]
  | .ret_Z => [0xC8]
  | .ret => [0xC9]
  | .jp_Z_a16 a16 => [0xCA, loByte a16, hiByte a16]
  | .prefixCb => [0xCB]
  | .call_Z_a16 a16 => [0xCC, loByte a16, hiByte a16]
  | .call_a16 a16 => [0xCD, loByte a16, hiByte a16]
  | .adc_A_d8 d8 => [0xCE, d8]
  | .rst_08 => [0xCF]
  | .ret_NC => [0xD0]
  | .pop_DE => [0xD1]
  | .jp_NC_a16 a16 => [0xD2, loByte a16, hiByte a16]
  | .illegal_D3 => [0xD3]
  | .call_NC_a16 a16 => [0xD4, loByte a16, hiByte a16]
  | .push_DE => [0xD5]
  | .sub_d8 d8 => [0xD6, d8]
  | .rst_10 => [0xD7]
  | .ret_C => [0xD8]
  | .reti => [0xD9]
  | .jp_C_a16 a16 => [0xDA, loByte a16, hiByte a16]
  | .illegal_DB => [0xDB]
  | .call_C_a16 a16 => [0xDC, loByte a16, hiByte a16]
  | .illegal_DD => [0xDD]
  | .sbc_A_d8 d8 => [0xDE, d8]
  | .rst_18 => [0xDF]
  | .ldh_ma8_A a8 => [0xE0, a8]
  | .pop_HL => [0xE1]
  | .ld_mC_A => [0xE2]
  | .illegal_E3 => [0xE3]
  | .illegal_E4 => [0xE4]
  | .push_HL => [0xE5]
  | .and_d8 d8 => [0xE6, d8]
  | .rst_20 => [0xE7]
  | .add_SP_r8 r8 => [0xE8, r8]
  | .jp_mHL => [0xE9]
  | .ld_ma16_A a16 => [0xEA, loByte a16, hiByte a16]
  | .illegal_EB => [0xEB]
  | .illegal_EC => [0xEC]
  | .illegal_ED => [0xED]
  | .xor_d8 d8 => [0xEE, d8]
  | .rst_28 => [0xEF]
  | .ldh_A_ma8 a8 => [0xF0, a8]
  | .pop_AF => [0xF1]
  | .ld_A_mC => [0xF2]
  | .di => [0xF3]
  | .illegal_F4 => [0xF4]
  | .push_AF => [0xF5]
  | .or_d8 d8 => [0xF6, d8]
  | .rst_30 => [0xF7]
  | .ld_HL_SPr8 r8 => [0xF8, r8]
  | .ld_SP_HL => [0xF9]
  | .ld_A_ma16 a16 => [0xFA, loByte a16, hiByte a16]
  | .ei => [0xFB]
  | .illegal_FC => [0xFC]
  | .illegal_FD => [0xFD]
  | .cp_d8 d8 => [0xFE, d8]
  | .rst_38 => [0xFF]
  | .rlc_B => [0xCB, 0x00]
  | .rlc_C => [0xCB, 0x01]
  | .rlc_D => [0xCB, 0x02]
  | .rlc_E => [0xCB, 0x03]
  | .rlc_H => [0xCB, 0x04]
  | .rlc_L => [0xCB, 0x05]
  | .rlc_mHL => [0xCB, 0x06]
  | .rlc_A => [0xCB, 0x07]
  | .rrc_B => [0xCB, 0x08]
  | .rrc_C => [0xCB, 0x09]
  | .rrc_D => [0xCB, 0x0A]
  | .rrc_E => [0xCB, 0x0B]
  | .rrc_H => [0xCB, 0x0C]
  | .rrc_L => [0xCB, 0x0D]
  | .rrc_mHL => [0xCB, 0x0E]
  | .rrc_A => [0xCB, 0x0F]
  | .rl_B => [0xCB, 0x10]
  | .rl_C => [0xCB, 0x11]
  | .rl_D => [0xCB, 0x12]
  | .rl_E => [0xCB, 0x13]
  | .rl_H => [0xCB, 0x14]
  | .rl_L => [0xCB, 0x15]
  | .rl_mHL => [0xCB, 0x16]
  | .rl_A => [0xCB, 0x17]
  | .rr_B => [0xCB, 0x18]
  | .rr_C => [0xCB, 0x19]
  | .rr_D => [0xCB, 0x1A]
  | .rr_E => [0xCB, 0x1B]
  | .rr_H => [0xCB, 0x1C]
  | .rr_L => [0xCB, 0x1D]
  | .rr_mHL => [0xCB, 0x1E]
  | .rr_A => [0xCB, 0x1F]
  | .sla_B => [0xCB, 0x20]
  | .sla_C => [0xCB, 0x21]
  | .sla_D => [0xCB, 0x22]
  | .sla_E => [0xCB, 0x23]
  | .sla_H => [0xCB, 0x24]
  | .sla_L => [0xCB, 0x25]
  | .sla_mHL => [0xCB, 0x26]
  | .sla_A => [0xCB, 0x27]
  | .sra_B => [0xCB, 0x28]
  | .sra_C => [0xCB, 0x29]
  | .sra_D => [0xCB, 0x2A]
  | .sra_E => [0xCB, 0x2B]
  | .sra_H => [0xCB, 0x2C]
  | .sra_L => [0xCB, 0x2D]
  | .sra_mHL => [0xCB, 0x2E]
  | .sra_A => [0xCB, 0x2F]
  | .swap_B => [0xCB, 0x30]
  | .swap_C => [0xCB, 0x31]
  | .swap_D => [0xCB, 0x32]
  | .swap_E => [0xCB, 0x33]
  | .swap_H => [0xCB, 0x34]
  | .swap_L => [0xCB, 0x35]
  | .swap_mHL => [0xCB, 0x36]
  | .swap_A => [0xCB, 0x37]
  | .srl_B => [0xCB, 0x38]
  | .srl_C => [0xCB, 0x39]
  | .srl_D => [0xCB, 0x3A]
  | .srl_E => [0xCB, 0x3B]
  | .srl_H => [0xCB, 0x3C]
  | .srl_L => [0xCB, 0x3D]
  | .srl_mHL => [0xCB, 0x3E]
  | .srl_A => [0xCB, 0x3F]
  | .bit_0_B => [0xCB, 0x40]
  | .bit_0_C => [0xCB, 0x41]
  | .bit_0_D => [0xCB, 0x42]
  | .bit_0_E => [0xCB, 0x43]
  | .bit_0_H => [0xCB, 0x44]
  | .bit_0_L => [0xCB, 0x45]
  | .bit_0_mHL => [0xCB, 0x46]
  | .bit_0_A => [0xCB, 0x47]
  | .bit_1_B => [0xCB, 0x48]
  | .bit_1_C => [0xCB, 0x49]
  | .bit_1_D => [0xCB, 0x4A]
  | .bit_1_E => [0xCB, 0x4B]
  | .bit_1_H => [0xCB, 0x4C]
  | .bit_1_L => [0xCB, 0x4D]
  | .bit_1_mHL => [0xCB, 0x4E]
  | .bit_1_A => [0xCB, 0x4F]
  | .bit_2_B => [0xCB, 0x50]
  | .bit_2_C => [0xCB, 0x51]
  | .bit_2_D => [0xCB, 0x52]
  | .bit_2_E => [0xCB, 0x53]
  | .bit_2_H => [0xCB, 0x54]
  | .bit_2_L => [0xCB, 0x55]
  | .bit_2_mHL => [0xCB, 0x56]
  | .bit_2_A => [0xCB, 0x57]
  | .bit_3_B => [0xCB, 0x58]
  | .bit_3_C => [0xCB, 0x59]
  | .bit_3_D => [0xCB, 0x5A]
  | .bit_3_E => [0xCB, 0x5B]
  | .bit_3_H => [0xCB, 0x5C]
  | .bit_3_L => [0xCB, 0x5D]
  | .bit_3_mHL => [0xCB, 0x5E]
  | .bit_3_A => [0xCB, 0x5F]
  | .bit_4_B => [0xCB, 0x60]
  | .bit_4_C => [0xCB, 0x61]
  | .bit_4_D => [0xCB, 0x62]
  | .bit_4_E => [0xCB, 0x63]
  | .bit_4_H => [0xCB, 0x64]
  | .bit_4_L => [0xCB, 0x65]
  | .bit_4_mHL => [0xCB, 0x66]
  | .bit_4_A => [0xCB, 0x67]
  | .bit_5_B => [0xCB, 0x68]
  | .bit_5_C => [0xCB, 0x69]
  | .bit_5_D => [0xCB, 0x6A]
  | .bit_5_E => [0xCB, 0x6B]
  | .bit_5_H => [0xCB, 0x6C]
  | .bit_5_L => [0xCB, 0x6D]
  | .bit_5_mHL => [0xCB, 0x6E]
  | .bit_5_A => [0xCB, 0x6F]
  | .bit_6_B => [0xCB, 0x70]
  | .bit_6_C => [0xCB, 0x71]
  | .bit_6_D => [0xCB, 0x72]
  | .bit_6_E => [0xCB, 0x73]
  | .bit_6_H => [0xCB, 0x74]
  | .bit_6_L => [0xCB, 0x75]
  | .bit_6_mHL => [0xCB, 0x76]
  | .bit_6_A => [0xCB, 0x77]
  | .bit_7_B => [0xCB, 0x78]
  | .bit_7_C => [0xCB, 0x79]
  | .bit_7_D => [0xCB, 0x7A]
  | .bit_7_E => [0xCB, 0x7B]
  | .bit_7_H => [0xCB, 0x7C]
  | .bit_7_L => [0xCB, 0x7D]
  | .bit_7_mHL => [0xCB, 0x7E]
  | .bit_7_A => [0xCB, 0x7F]
  | .res_0_B => [0xCB, 0x80]
  | .res_0_C => [0xCB, 0x81]
  | .res_0_D => [0xCB, 0x82]
  | .res_0_E => [0xCB, 0x83]
  | .res_0_H => [0xCB, 0x84]
  | .res_0_L => [0xCB, 0x85]
  | .res_0_mHL => [0xCB, 0x86]
  | .res_0_A => [0xCB, 0x87]
  | .res_1_B => [0xCB, 0x88]
  | .res_1_C => [0xCB, 0x89]
  | .res_1_D => [0xCB, 0x8A]
  | .res_1_E => [0xCB, 0x8B]
  | .res_1_H => [0xCB, 0x8C]
  | .res_1_L => [0xCB, 0x8D]
  | .res_1_mHL => [0xCB, 0x8E]
  | .res_1_A => [0xCB, 0x8F]
  | .res_2_B => [0xCB, 0x90]
  | .res_2_C => [0xCB, 0x91]
  | .res_2_D => [0xCB, 0x92]
  | .res_2_E => [0xCB, 0x93]
  | .res_2_H => [0xCB, 0x94]
  | .res_2_L => [0xCB, 0x95]
  | .res_2_mHL => [0xCB, 0x96]
  | .res_2_A => [0xCB, 0x97]
  | .res_3_B => [0xCB, 0x98]
  | .res_3_C => [0xCB, 0x99]
  | .res_3_D => [0xCB, 0x9A]
  | .res_3_E => [0xCB, 0x9B]
  | .res_3_H => [0xCB, 0x9C]
  | .res_3_L => [0xCB, 0x9D]
  | .res_3_mHL => [0xCB, 0x9E]
  | .res_3_A => [0xCB, 0x9F]
  | .res_4_B => [0xCB, 0xA0]
  | .res_4_C => [0xCB, 0xA1]
  | .res_4_D => [0xCB, 0xA2]
  | .res_4_E => [0xCB, 0xA3]
  | .res_4_H => [0xCB, 0xA4]
  | .res_4_L => [0xCB, 0xA5]
  | .res_4_mHL => [0xCB, 0xA6]
  | .res_4_A => [0xCB, 0xA7]
  | .res_5_B => [0xCB, 0xA8]
  | .res_5_C => [0xCB, 0xA9]
  | .res_5_D => [0xCB, 0xAA]
  | .res_5_E => [0xCB, 0xAB]
  | .res_5_H => [0xCB, 0xAC]
  | .res_5_L => [0xCB, 0xAD]
  | .res_5_mHL => [0xCB, 0xAE]
  | .res_5_A => [0xCB, 0xAF]
  | .res_6_B => [0xCB, 0xB0]
  | .res_6_C => [0xCB, 0xB1]
  | .res_6_D => [0xCB, 0xB2]
  | .res_6_E => [0xCB, 0xB3]
  | .res_6_H => [0xCB, 0xB4]
  | .res_6_L => [0xCB, 0xB5]
  | .res_6_mHL => [0xCB, 0xB6]
  | .res_6_A => [0xCB, 0xB7]
  | .res_7_B => [0xCB, 0xB8]
  | .res_7_C => [0xCB, 0xB9]
  | .res_7_D => [0xCB, 0xBA]
  | .res_7_E => [0xCB, 0xBB]
  | .res_7_H => [0xCB, 0xBC]
  | .res_7_L => [0xCB, 0xBD]
  | .res_7_mHL => [0xCB, 0xBE]
  | .res_7_A => [0xCB, 0xBF]
  | .set_0_B => [0xCB, 0xC0]
  | .set_0_C => [0xCB, 0xC1]
  | .set_0_D => [0xCB, 0xC2]
  | .set_0_E => [0xCB, 0xC3]
  | .set_0_H => [0xCB, 0xC4]
  | .set_0_L => [0xCB, 0xC5]
  | .set_0_mHL => [0xCB, 0xC6]
  | .set_0_A => [0xCB, 0xC7]
  | .set_1_B => [0xCB, 0xC8]
  | .set_1_C => [0xCB, 0xC9]
  | .set_1_D => [0xCB, 0xCA]
  | .set_1_E => [0xCB, 0xCB]
  | .set_1_H => [0xCB, 0xCC]
  | .set_1_L => [0xCB, 0xCD]
  | .set_1_mHL => [0xCB, 0xCE]
  | .set_1_A => [0xCB, 0xCF]
  | .set_2_B => [0xCB, 0xD0]
  | .set_2_C => [0xCB, 0xD1]
  | .set_2_D => [0xCB, 0xD2]
  | .set_2_E => [0xCB, 0xD3]
  | .set_2_H => [0xCB, 0xD4]
  | .set_2_L => [0xCB, 0xD5]
  | .set_2_mHL => [0xCB, 0xD6]
  | .set_2_A => [0xCB, 0xD7]
  | .set_3_B => [0xCB, 0xD8]
  | .set_3_C => [0xCB, 0xD9]
  | .set_3_D => [0xCB, 0xDA]
  | .set_3_E => [0xCB, 0xDB]
  | .set_3_H => [0xCB, 0xDC]
  | .set_3_L => [0xCB, 0xDD]
  | .set_3_mHL => [0xCB, 0xDE]
  | .set_3_A => [0xCB, 0xDF]
  | .set_4_B => [0xCB, 0xE0]
  | .set_4_C => [0xCB, 0xE1]
  | .set_4_D => [0xCB, 0xE2]
  | .set_4_E => [0xCB, 0xE3]
  | .set_4_H => [0xCB, 0xE4]
  | .set_4_L => [0xCB, 0xE5]
  | .set_4_mHL => [0xCB, 0xE6]
  | .set_4_A => [0xCB, 0xE7]
  | .set_5_B => [0xCB, 0xE8]
  | .set_5_C => [0xCB, 0xE9]
  | .set_5_D => [0xCB, 0xEA]
  | .set_5_E => [0xCB, 0xEB]
  | .set_5_H => [0xCB, 0xEC]
  | .set_5_L => [0xCB, 0xED]
  | .set_5_mHL => [0xCB, 0xEE]
  | .set_5_A => [0xCB, 0xEF]
  | .set_6_B => [0xCB, 0xF0]
  | .set_6_C => [0xCB, 0xF1]
  | .set_6_D => [0xCB, 0xF2]
  | .set_6_E => [0xCB, 0xF3]
  | .set_6_H => [0xCB, 0xF4]
  | .set_6_L => [0xCB, 0xF5]
  | .set_6_mHL => [0xCB, 0xF6]
  | .set_6_A => [0xCB, 0xF7]
  | .set_7_B => [0xCB, 0xF8]
  | .set_7_C => [0xCB, 0xF9]
  | .set_7_D => [0xCB, 0xFA]
  | .set_7_E => [0xCB, 0xFB]
  | .set_7_H => [0xCB, 0xFC]
  | .set_7_L => [0xCB, 0xFD]
  | .set_7_mHL => [0xCB, 0xFE]
  | .set_7_A => [0xCB, 0xFF]

end Sys2Proof
end

