-- ==== Sys2Proof/Config.lean ====
section
/-! DEFINITION. The implementation parameters of 00_scope R4. The spec leaves no free value
(93_implementation_defined section 1), so there is no opaque constant here. -/

namespace Sys2Proof

/-- `ILLEGAL_POLICY` and `UNUSABLE_WRITE_POLICY` (R4, decisions D10 and D11): report a diagnostic and go
on, or stop with a fault. -/
inductive Strictness where
  | permissive
  | strict
  deriving DecidableEq, Repr

/-- `STOP_POLICY` (R4, R252, decision D9): STOP is a two-byte no-op, or the program is refused. -/
inductive StopPolicy where
  | nop2
  | refuse
  deriving DecidableEq, Repr

/-- The policy parameters of R4, fixed for a run. -/
structure Policy where
  illegalOpcode : Strictness
  unusableWrite : Strictness
  stop : StopPolicy
  deriving DecidableEq, Repr

/-- The defaults of R4 (decisions D9, D10, D11). -/
def Policy.default : Policy :=
  { illegalOpcode := .permissive, unusableWrite := .permissive, stop := .nop2 }

/-- `RESET_PC`, default 0x0100 (R4, R13, decision D28; log 18). -/
def Config.resetPc : Word := 0x0100

/-- The largest image that `load` accepts, in bytes (R307, decision D27). -/
def Config.romBytes : Nat := 0x8000

end Sys2Proof
end

