-- ==== Sys2Proof/Machine/State.lean ====
section
/-! DEFINITION. The state of the machine as plain data, the reasons a step can stop, and the state after
reset (10_state, 70_reset_and_hazards R300 to R302). -/

namespace Sys2Proof.Machine

/-- The four flags, fZ fN fH fC (10_state R14). R15: F and the four flags are one piece of state, so the
byte F is a view of these and its low nibble is zero by construction (log 17). -/
structure Flags where
  z : Bool
  n : Bool
  h : Bool
  c : Bool
  deriving DecidableEq, Repr

/-- The delay counter of `ScheduledEnable(n)`, n in 1, 2 (10_state R18; log 20). -/
inductive EiDelay where
  | one
  | two
  deriving DecidableEq, Repr

/-- The interrupt master enable state machine (10_state R18, 60_exceptions R261). -/
inductive Ime where
  | disabled
  | scheduled (n : EiDelay)
  | enabled
  deriving DecidableEq, Repr

/-- A diagnostic event with its payload (60_exceptions R280, decision D36). -/
inductive Diagnostic where
  | illegalOpcode (opcode : Byte) (address : Word)
  | unusableWrite (address : Word) (value : Byte)
  deriving DecidableEq, Repr

/-- The reasons a step has no successor state, under a strict policy only (60_exceptions R281). -/
inductive Fault where
  /-- Raised by the eleven illegal opcodes under `ILLEGAL_POLICY = strict` (R256, R281). Safe: the spec
  itself says the step has no successor. -/
  | illegalOpcode (opcode : Byte) (address : Word)
  /-- Raised by a bus write to 0xFEA0 to 0xFEFF under `UNUSABLE_WRITE_POLICY = strict` (R47, R281). Safe:
  the spec itself says the step has no successor. -/
  | unusableWrite (address : Word) (value : Byte)
  deriving DecidableEq, Repr

/-- The reasons the model gives no meaning. -/
inductive Refusal where
  /-- An instruction whose arm of `exec` has no meaning yet; no arm uses it. Safe. -/
  | notModelled (mnemonic : String)
  /-- STOP under `STOP_POLICY = refuse` (R252, decision D9). Safe: the spec says the model rejects the
  program. -/
  | stopOutsideSpec
  /-- `load` of an image above 0x8000 bytes (R307, decision D27, 93 U13). Raised by the host's `load` only,
  never by a step. Safe: the spec leaves such an image out of the model. -/
  | romImageTooLarge
  deriving DecidableEq, Repr

/-- Memory as (address, byte) pairs in one canonical form, `Memory.wf` below. -/
abbrev Memory := List Host.Cell

/-- What an address that is not listed reads as: the reset contents of R302 with the default `RESET_IO`
(zero everywhere except JOYP = 0xCF). A ROM image is placed by the host (log 2, log 3). -/
def Memory.unlisted (a : Nat) : Byte := if a = 0xFF00 then 0xCF else 0x00

/-- The addresses of a memory rise strictly, from a first one that is at least `lo`, and none is beyond
0xFFFF or holds what it would read as anyway. -/
def Memory.wfFrom (lo : Nat) : Memory → Bool
  | [] => true
  | (a, v) :: m => decide (lo ≤ a) && decide (a < 0x10000) && (v != Memory.unlisted a) && Memory.wfFrom (a + 1) m

/-- The canonical form: addresses strictly rising within the 64 KiB of R40, and no entry equal to what an
unlisted address reads as, so that equal memories are equal data. -/
def Memory.wf (m : Memory) : Bool := Memory.wfFrom 0 m

/-- Everything the spec gives the machine: 10_state R10 to R30; `events` is the output of the latest step
(R280; log 5) and `policy` the policy parameters of R4 (log 4). IF, IE, JOYP and the timer and DMA
registers are bytes of `mem` (R21). -/
structure State where
  a : Byte
  b : Byte
  c : Byte
  d : Byte
  e : Byte
  h : Byte
  l : Byte
  flags : Flags
  sp : Word
  pc : Word
  ime : Ime
  halted : Bool
  ctr : Word
  mem : Memory
  events : List Diagnostic
  policy : Policy
  deriving DecidableEq, Repr

/-- The machine right after reset: R300 (registers), R301 (ime, halted, ctr, no diagnostic), R302 (memory;
nothing listed), R4 (default policies). -/
def State.reset : State :=
  { a := 0x01, b := 0x00, c := 0x13, d := 0x00, e := 0xD8, h := 0x01, l := 0x4D,
    flags := { z := true, n := false, h := true, c := true },
    sp := 0xFFFE, pc := Config.resetPc,
    ime := .disabled, halted := false, ctr := 0x0000,
    mem := [], events := [], policy := Policy.default }

/-- The outcome of an operation of the machine. -/
abbrev Result := Host.Outcome State Fault Refusal

end Sys2Proof.Machine
end

