-- ==== Sys2Proof/Machine/Flags.lean ====
section
/-! DEFINITION. The flag byte F and every result-and-flags computation of the spec: 8-bit (42_alu8), 16-bit
(43_alu16, 41_load16_stack R135) and the rotate, shift and bit primitives (44_rotate_shift_bit). Sums are
exact, on Nat or Int, and are narrowed at the end (00_scope R5). -/

namespace Sys2Proof.Machine

/-- F = fZ fN fH fC 0 0 0 0 (10_state R14, R15). -/
def Flags.toByte (f : Flags) : Byte :=
  (if f.z then 0x80 else 0) ||| (if f.n then 0x40 else 0) ||| (if f.h then 0x20 else 0) ||| (if f.c then 0x10 else 0)

/-- The flags from bits 7, 6, 5, 4 of a byte, its low nibble dropped (R15, R137). -/
def Flags.ofByte (v : Byte) : Flags :=
  { z := v.getLsbD 7, n := v.getLsbD 6, h := v.getLsbD 5, c := v.getLsbD 4 }

/-- The low nibble of a byte as a number, `v & 0x0F`. -/
def lowNibble (v : Byte) : Nat := (v &&& 0x0F).toNat

/-- `add8(a, x, cin)` (42_alu8 R150). -/
def add8 (a x : Byte) (cin : Bool) : Byte × Flags :=
  let sum := a.toNat + x.toNat + cin.toNat
  let r : Byte := BitVec.ofNat 8 sum
  (r, { z := r == 0, n := false, h := decide (lowNibble a + lowNibble x + cin.toNat > 0x0F), c := decide (sum > 0xFF) })

/-- `sub8(a, x, cin)` (R151). -/
def sub8 (a x : Byte) (cin : Bool) : Byte × Flags :=
  let r : Byte := BitVec.ofInt 8 ((a.toNat : Int) - x.toNat - cin.toNat)
  (r, { z := r == 0, n := true, h := decide (lowNibble a < lowNibble x + cin.toNat), c := decide (a.toNat < x.toNat + cin.toNat) })

/-- AND (R161): H is set, C is cleared. -/
def and8 (a x : Byte) : Byte × Flags :=
  let r := a &&& x
  (r, { z := r == 0, n := false, h := true, c := false })

/-- XOR (R163). -/
def xor8 (a x : Byte) : Byte × Flags :=
  let r := a ^^^ x
  (r, { z := r == 0, n := false, h := false, c := false })

/-- OR (R165). -/
def or8 (a x : Byte) : Byte × Flags :=
  let r := a ||| x
  (r, { z := r == 0, n := false, h := false, c := false })

/-- The increment of R169 and R170; fC is kept. -/
def inc8 (v : Byte) (f : Flags) : Byte × Flags :=
  let r := v + 1
  (r, { z := r == 0, n := false, h := decide (lowNibble v = 0x0F), c := f.c })

/-- The decrement of R171 and R172; fC is kept. -/
def dec8 (v : Byte) (f : Flags) : Byte × Flags :=
  let r := v - 1
  (r, { z := r == 0, n := true, h := decide (lowNibble v = 0x00), c := f.c })

/-- DAA after an addition (R173, fN = 0): the corrected accumulator before it is narrowed, and fC. -/
def daaAdd (a : Byte) (f : Flags) : Nat × Bool :=
  let high := f.c || decide (a.toNat > 0x99)
  let a1 := if high then a.toNat + 0x60 else a.toNat
  let a2 := if f.h || decide (a1 % 0x10 > 0x09) then a1 + 0x06 else a1
  (a2, high)

/-- DAA after a subtraction (R173, fN = 1): only the flags are tested, fC is kept. -/
def daaSub (a : Byte) (f : Flags) : Int :=
  let a1 : Int := if f.c then (a.toNat : Int) - 0x60 else a.toNat
  if f.h then a1 - 0x06 else a1

/-- DAA (R173); fN is kept, fH is cleared. -/
def daa8 (a : Byte) (f : Flags) : Byte × Flags :=
  if f.n then
    let r : Byte := BitVec.ofInt 8 (daaSub a f)
    (r, { z := r == 0, n := f.n, h := false, c := f.c })
  else
    let r : Byte := BitVec.ofNat 8 (daaAdd a f).1
    (r, { z := r == 0, n := f.n, h := false, c := (daaAdd a f).2 })

/-- ADD HL,rr (43_alu16 R190): carries out of bits 11 and 15; fZ is kept. -/
def add16 (a x : Word) (f : Flags) : Word × Flags :=
  let sum := a.toNat + x.toNat
  (BitVec.ofNat 16 sum,
    { z := f.z, n := false, h := decide ((a &&& 0x0FFF).toNat + (x &&& 0x0FFF).toNat > 0x0FFF), c := decide (sum > 0xFFFF) })

/-- SP plus a signed displacement (R193, 41_load16_stack R135): H and C from the unsigned addition of the raw
byte to the low byte of SP. -/
def addSp8 (sp : Word) (d : Byte) : Word × Flags :=
  (sp + sext16 d,
    { z := false, n := false,
      h := decide ((sp &&& 0x0F).toNat + lowNibble d > 0x0F),
      c := decide ((sp &&& 0xFF).toNat + d.toNat > 0xFF) })

/-! ## Rotates and shifts: the result and the bit moved out (44_rotate_shift_bit section 1) -/

/-- `rlc(v)` (R200). -/
def rlc (v : Byte) : Byte × Bool := ((v <<< 1) ||| bitByte (v.getLsbD 7), v.getLsbD 7)

/-- `rrc(v)` (R201). -/
def rrc (v : Byte) : Byte × Bool := ((v >>> 1) ||| (bitByte (v.getLsbD 0) <<< 7), v.getLsbD 0)

/-- `rl(v, cin)` (R202). -/
def rl (v : Byte) (cin : Bool) : Byte × Bool := ((v <<< 1) ||| bitByte cin, v.getLsbD 7)

/-- `rr(v, cin)` (R203). -/
def rr (v : Byte) (cin : Bool) : Byte × Bool := ((v >>> 1) ||| (bitByte cin <<< 7), v.getLsbD 0)

/-- `sla(v)` (R204). -/
def sla (v : Byte) : Byte × Bool := (v <<< 1, v.getLsbD 7)

/-- `sra(v)` (R205). -/
def sra (v : Byte) : Byte × Bool := ((v >>> 1) ||| (v &&& 0x80), v.getLsbD 0)

/-- `srl(v)` (R206). -/
def srl (v : Byte) : Byte × Bool := (v >>> 1, v.getLsbD 0)

/-- `swap(v)` (R207); SWAP clears the carry (R219). -/
def swap (v : Byte) : Byte × Bool := (((v &&& 0x0F) <<< 4) ||| (v >>> 4), false)

/-- The flags of an unprefixed accumulator rotate (R209 to R212): fZ is 0 whatever the result. -/
def accRotFlags (carry : Bool) : Flags := { z := false, n := false, h := false, c := carry }

/-- The flags of a CB-prefixed rotate, shift or swap (R213 to R220). -/
def rotFlags (r : Byte) (carry : Bool) : Flags := { z := r == 0, n := false, h := false, c := carry }

/-- The flags of BIT (R221); fC is kept. -/
def bitFlags (v : Byte) (b : Nat) (f : Flags) : Flags := { z := !v.getLsbD b, n := false, h := true, c := f.c }

/-- `v & ~(1 << b)` (R222). -/
def resetBit (v : Byte) (b : Nat) : Byte := v &&& ~~~((1 : Byte) <<< b)

/-- `v | (1 << b)` (R223). -/
def setBit (v : Byte) (b : Nat) : Byte := v ||| ((1 : Byte) <<< b)

end Sys2Proof.Machine
end

