-- ==== Sys2Proof/Machine/Ops.lean ====
section
/-! DEFINITION. The named operations over the state: raw memory, the bus policy (20_memory), the stack
(41_load16_stack R130, R131), the interrupt master enable, and taking an interrupt with the return from it
beside it (60_exceptions R262 to R267). -/

namespace Sys2Proof.Machine

/-- Go on from a next state; a fault or a refusal ends the step (R281). -/
def andThen (o : Result) (k : State → Result) : Result :=
  match o with
  | .next s => k s
  | .fault f => .fault f
  | .refused r => .refused r

/-! ## Raw memory -/

/-- `mem[a]` (R6, R17). -/
def Memory.read : Memory → Nat → Byte
  | [], a => Memory.unlisted a
  | (b, v) :: m, a => if a = b then v else Memory.read m a

/-- Put a byte in its place by address, replacing the one listed there. -/
def Memory.insert : Memory → Nat → Byte → Memory
  | [], a, v => [(a, v)]
  | (b, w) :: m, a, v =>
    if a < b then (a, v) :: (b, w) :: m
    else if a = b then (a, v) :: m
    else (b, w) :: Memory.insert m a v

/-- List no byte at an address. -/
def Memory.erase (m : Memory) (a : Nat) : Memory := m.filter fun cell => cell.1 != a

/-- `mem[a] <- v` (R6, R17), keeping the canonical form. -/
def Memory.write (m : Memory) (a : Nat) (v : Byte) : Memory :=
  if v = Memory.unlisted a then m.erase a else m.insert a v

/-- The DMA copy of the first `n` bytes, in ascending order, raw array to raw array (20_memory R51). -/
def Memory.dmaCopy (m : Memory) (source : Nat) : Nat → Memory
  | 0 => m
  | n + 1 =>
    let m' := Memory.dmaCopy m source n
    m'.write (Addr.oam + n) (m'.read (source + n))

namespace State

/-- The raw byte `mem[a]` (R6). -/
def peek (s : State) (a : Word) : Byte := s.mem.read a.toNat

/-- The raw write `mem[a] <- v` (R6). -/
def poke (s : State) (a : Word) (v : Byte) : State := { s with mem := s.mem.write a.toNat v }

/-- `MemRead(a, 1)`, the bus read: the array byte, no side effect (20_memory R42). -/
abbrev memRead (s : State) (a : Word) : Byte := s.peek a

/-- `MemRead(a, 2)`: low byte at the lower address (R6, R54), the address modulo 2^16 (R57). -/
def memRead16 (s : State) (a : Word) : Word := wordOf (s.memRead (a + 1)) (s.memRead a)

def setPc (s : State) (v : Word) : State := { s with pc := v }
def setSp (s : State) (v : Word) : State := { s with sp := v }
def setFlags (s : State) (f : Flags) : State := { s with flags := f }
def setIme (s : State) (i : Ime) : State := { s with ime := i }
def setHalted (s : State) (b : Bool) : State := { s with halted := b }
def setCtr (s : State) (v : Word) : State := { s with ctr := v }
def setMem (s : State) (m : Memory) : State := { s with mem := m }

/-- `pc <- (pc + length) mod 2^16` (R6, R13). -/
def advance (s : State) (n : Word) : State := { s with pc := s.pc + n }

/-- `raise Diagnostic` (R280): the event is added after those the step has already emitted. -/
def emit (s : State) (e : Diagnostic) : State := { s with events := s.events ++ [e] }

/-- No event yet: what a step starts from (R280; log 5). -/
def clearEvents (s : State) : State := { s with events := [] }

end State

/-! ## The bus write policy -/

/-- The regions that the write policy tells apart (20_memory R41, R44 to R52). -/
inductive Region where
  | rom
  | workRam
  | echoRam
  | unusable
  | joyp
  | div
  | tac
  | dma
  | plain
  deriving DecidableEq, Repr

/-- The address map of R41, with the ranges of R44 to R52. -/
def regionOf (a : Word) : Region :=
  if a.toNat < 0x8000 then .rom
  else if 0xC000 ≤ a.toNat ∧ a.toNat ≤ 0xDDFF then .workRam
  else if 0xE000 ≤ a.toNat ∧ a.toNat ≤ 0xFDFF then .echoRam
  else if 0xFEA0 ≤ a.toNat ∧ a.toNat ≤ 0xFEFF then .unusable
  else if a = Addr.joyp then .joyp
  else if a = Addr.div then .div
  else if a = Addr.tac then .tac
  else if a = Addr.dma then .dma
  else .plain

/-- The DMA copy of 160 bytes from `v * 0x100` into OAM (R51). -/
def dmaTransfer (v : Byte) (s : State) : State :=
  s.setMem (s.mem.dmaCopy (v.toNat * 0x100) Addr.oamBytes)

/-- What a bus write does where it is not a fault (20_memory R44 to R52). -/
def busEffect (a : Word) (v : Byte) (s : State) : State :=
  match regionOf a with
  | .rom => s
  | .workRam => (s.poke a v).poke (a + 0x2000) v
  | .echoRam => (s.poke a v).poke (a - 0x2000) v
  | .unusable => s.emit (.unusableWrite a v)
  | .joyp => s.poke a ((s.peek a &&& 0xCF) ||| (v &&& 0x30))
  | .div => (s.poke a 0).setCtr 0
  | .tac => s.poke a ((s.peek a &&& 0xF8) ||| (v &&& 0x07))
  | .dma => dmaTransfer v (s.poke a v)
  | .plain => s.poke a v

/-- `MemWrite(a, 1, v)` (20_memory R43); a write to the unusable region under the strict policy is a fault
(R47, R281). -/
def busWrite (a : Word) (v : Byte) (s : State) : Result :=
  if regionOf a = .unusable ∧ s.policy.unusableWrite = .strict then .fault (.unusableWrite a v)
  else .next (busEffect a v s)

/-- `MemWrite(a, 2, v)`: low byte at the lower address first (R6, R54, R56). -/
def busWrite16 (a v : Word) (s : State) : Result :=
  andThen (busWrite a (loByte v) s) (busWrite (a + 1) (hiByte v))

/-! ## The stack -/

/-- `Push16(v)` (41_load16_stack R130): the high byte to SP - 1, then the low byte to SP - 2. -/
def push16 (v : Word) (s : State) : Result :=
  andThen (busWrite (s.sp - 1) (hiByte v) s) fun s1 =>
  andThen (busWrite (s.sp - 2) (loByte v) s1) fun s2 =>
  .next (s2.setSp (s.sp - 2))

/-- The value `Pop16()` returns: low byte at SP, high byte at SP + 1 (R131). -/
def popValue (s : State) : Word := s.memRead16 s.sp

/-- What `Pop16()` leaves: SP + 2 and nothing else (R131). -/
def popState (s : State) : State := s.setSp (s.sp + 2)

/-! ## Interrupts -/

/-- The five interrupt sources (60_exceptions R268). -/
inductive Irq where
  | vblank
  | lcdStat
  | timer
  | serial
  | joypad
  deriving DecidableEq, Repr

/-- The bit of IF and IE that stands for a source (R27, R268). -/
def Irq.bit : Irq → Nat
  | .vblank => 0
  | .lcdStat => 1
  | .timer => 2
  | .serial => 3
  | .joypad => 4

/-- The five sources in priority order, bit 0 first (R269). -/
def Irq.byPriority : List Irq := [.vblank, .lcdStat, .timer, .serial, .joypad]

/-- `0x0040 + 8*i` (10_state R31). -/
def Irq.vector (i : Irq) : Word := BitVec.ofNat 16 (0x0040 + 8 * i.bit)

/-- The source is pending in IF and enabled in IE (R268). -/
def Irq.active (i : Irq) (s : State) : Bool :=
  (s.peek Addr.ifReg).getLsbD i.bit && (s.peek Addr.ieReg).getLsbD i.bit

/-- The pending and enabled source of the lowest bit number (R267, R269). -/
def pendingIrq (s : State) : Option Irq := Irq.byPriority.find? fun i => i.active s

/-- Some source is both pending and enabled: `IF & IE & 0x1F != 0` (R266). -/
def wakeCondition (s : State) : Bool := (s.peek Addr.ifReg &&& s.peek Addr.ieReg &&& 0x1F) != 0

/-- Taking an interrupt (60_exceptions R267), in the rule's order: clear the IF bit (raw), `ime` becomes
Disabled, push the PC through the bus, enter the vector. -/
def takeInterrupt (i : Irq) (s : State) : Result :=
  let cleared := s.poke Addr.ifReg (s.peek Addr.ifReg &&& ~~~((1 : Byte) <<< i.bit))
  andThen (push16 s.pc (cleared.setIme .disabled)) fun t => .next (t.setPc i.vector)

/-- The return from an interrupt (R270, 45_control R240): PC is popped and `ime` becomes Enabled, whatever
it was. -/
def returnFromInterrupt (s : State) : Result :=
  .next (((popState s).setPc (popValue s)).setIme .enabled)

/-- One count of the EI delay (phase P1, R262). -/
def Ime.tick : Ime → Ime
  | .scheduled .two => .scheduled .one
  | .scheduled .one => .enabled
  | .disabled => .disabled
  | .enabled => .enabled

/-- What EI makes of the state machine (R254, R261): only Disabled is scheduled. -/
def Ime.afterEi : Ime → Ime
  | .disabled => .scheduled .two
  | .scheduled n => .scheduled n
  | .enabled => .enabled

end Sys2Proof.Machine
end

