-- ==== Sys2Proof/Machine/Operands.lean ====
section
/-! DEFINITION. Every operand form: 8-bit registers and (HL) (30_encoding R73), register pairs (R74, 10_state
R11), conditions (45_control R230), and the templates that several instructions of one shape share. -/

namespace Sys2Proof.Machine

namespace State

/-- An 8-bit register (10_state R10). -/
def reg (s : State) : Reg8 → Byte
  | .B => s.b
  | .C => s.c
  | .D => s.d
  | .E => s.e
  | .H => s.h
  | .L => s.l
  | .A => s.a

/-- Write an 8-bit register. -/
def setReg (s : State) (r : Reg8) (v : Byte) : State :=
  match r with
  | .B => { s with b := v }
  | .C => { s with c := v }
  | .D => { s with d := v }
  | .E => { s with e := v }
  | .H => { s with h := v }
  | .L => { s with l := v }
  | .A => { s with a := v }

/-- The flag register as a byte (R14, R15). -/
def f (s : State) : Byte := s.flags.toByte

def bc (s : State) : Word := wordOf s.b s.c
def de (s : State) : Word := wordOf s.d s.e
def hl (s : State) : Word := wordOf s.h s.l
def af (s : State) : Word := wordOf s.a s.f

def setBc (s : State) (v : Word) : State := { s with b := hiByte v, c := loByte v }
def setDe (s : State) (v : Word) : State := { s with d := hiByte v, e := loByte v }
def setHl (s : State) (v : Word) : State := { s with h := hiByte v, l := loByte v }
/-- Writing AF forces bits 3 to 0 of F to zero (R11, R14). -/
def setAf (s : State) (v : Word) : State := { s with a := hiByte v, flags := Flags.ofByte (loByte v) }

/-- `rp[i]` (R6, R74). -/
def pair (s : State) : Pair → Word
  | .BC => s.bc
  | .DE => s.de
  | .HL => s.hl
  | .SP => s.sp

/-- Write `rp[i]`. -/
def setPair (s : State) (p : Pair) (v : Word) : State :=
  match p with
  | .BC => s.setBc v
  | .DE => s.setDe v
  | .HL => s.setHl v
  | .SP => s.setSp v

/-- `rp2[i]` (R6, R74). -/
def stackPair (s : State) : StackPair → Word
  | .BC => s.bc
  | .DE => s.de
  | .HL => s.hl
  | .AF => s.af

/-- Write `rp2[i]`; AF as R137. -/
def setStackPair (s : State) (p : StackPair) (v : Word) : State :=
  match p with
  | .BC => s.setBc v
  | .DE => s.setDe v
  | .HL => s.setHl v
  | .AF => s.setAf v

/-- Read `r8[i]`: a register, or the memory byte at HL (R6, R73). -/
def loc (s : State) : Loc8 → Byte
  | .reg r => s.reg r
  | .atHL => s.memRead s.hl

/-- `cond(cc)` (R230). -/
def cond (s : State) : Cond → Bool
  | .NZ => !s.flags.z
  | .Z => s.flags.z
  | .NC => !s.flags.c
  | .C => s.flags.c

end State

/-- Write `r8[i]`: a register, or the memory byte at HL through the bus (R6, R73, R208). -/
def writeLoc (x : Loc8) (v : Byte) (s : State) : Result :=
  match x with
  | .reg r => .next (s.setReg r v)
  | .atHL => busWrite s.hl v s

/-- The target of a relative jump: the displacement counts from the address after the two-byte instruction
(R234). -/
def jrTarget (s : State) (d : Byte) : Word := s.pc + 2 + sext16 d

/-! ## Instruction shapes -/

/-- Write a register and go on after `len` bytes (the loads of 40_load8). -/
def loadReg (d : Reg8) (v : Byte) (len : Word) (s : State) : Result :=
  .next ((s.setReg d v).advance len)

/-- Store a byte through the bus and go on after `len` bytes (the stores of 40_load8). -/
def storeByte (address : Word) (v : Byte) (len : Word) (s : State) : Result :=
  andThen (busWrite address v s) fun t => .next (t.advance len)

/-- Load A from memory at HL, then move HL by `delta` (R116, R118). -/
def loadAStepHL (delta : Word) (s : State) : Result :=
  .next (((s.setReg .A (s.memRead s.hl)).setHl (s.hl + delta)).advance 1)

/-- Store A to memory at HL, then move HL by `delta` (R115, R117). -/
def storeAStepHL (delta : Word) (s : State) : Result :=
  andThen (busWrite s.hl s.a s) fun t => .next ((t.setHl (s.hl + delta)).advance 1)

/-- An 8-bit operation whose result goes to A and whose flags go to F (42_alu8 R152). -/
def accResult (rf : Byte × Flags) (len : Word) (s : State) : Result :=
  .next (((s.setReg .A rf.1).setFlags rf.2).advance len)

/-- A comparison: the flags only (R167, R168). -/
def flagsOnly (f : Flags) (len : Word) (s : State) : Result :=
  .next ((s.setFlags f).advance len)

/-- Read an operand location, write back a result, take its flags, in one read and one write (R170, R208).
The flags come from the computed result. -/
def modifyLoc (x : Loc8) (rf : Byte × Flags) (len : Word) (s : State) : Result :=
  andThen (writeLoc x rf.1 s) fun t => .next ((t.setFlags rf.2).advance len)

/-- The two-operand operations of R152 on A and a source byte. -/
def aluResult (op : AluOp) (a x : Byte) (f : Flags) : Byte × Flags :=
  match op with
  | .add => add8 a x false
  | .adc => add8 a x f.c
  | .sub => sub8 a x false
  | .sbc => sub8 a x f.c
  | .and => and8 a x
  | .xor => xor8 a x
  | .or => or8 a x
  | .cp => (a, (sub8 a x false).2)

/-- One of the eight operations of R152 on A, `len` bytes long; CP leaves A as it is (R167). -/
def aluOn (op : AluOp) (x : Byte) (len : Word) (s : State) : Result :=
  match op with
  | .cp => flagsOnly (aluResult .cp s.a x s.flags).2 len s
  | _ => accResult (aluResult op s.a x s.flags) len s

/-- INC of an operand location (R169, R170). -/
def incOn (x : Loc8) (s : State) : Result := modifyLoc x (inc8 (s.loc x) s.flags) 1 s

/-- DEC of an operand location (R171, R172). -/
def decOn (x : Loc8) (s : State) : Result := modifyLoc x (dec8 (s.loc x) s.flags) 1 s

/-- Write a register pair or SP and go on, no flag (R132, R191, R192). -/
def loadPair (p : Pair) (v : Word) (len : Word) (s : State) : Result :=
  .next ((s.setPair p v).advance len)

/-- ADD HL,rr (R190). -/
def addHL (p : Pair) (s : State) : Result :=
  let rf := add16 s.hl (s.pair p) s.flags
  .next (((s.setHl rf.1).setFlags rf.2).advance 1)

/-- PUSH rr (R136). -/
def pushPair (p : StackPair) (s : State) : Result :=
  andThen (push16 (s.stackPair p) s) fun t => .next (t.advance 1)

/-- POP rr (R137). -/
def popPair (p : StackPair) (s : State) : Result :=
  .next (((popState s).setStackPair p (popValue s)).advance 1)

/-- An unprefixed rotate of A (R209 to R212). -/
def rotateAcc (rc : Byte × Bool) (s : State) : Result := accResult (rc.1, accRotFlags rc.2) 1 s

/-- The primitive of a CB-prefixed rotate, shift or swap (R200 to R207, R74). -/
def rotResult (op : RotOp) (v : Byte) (cin : Bool) : Byte × Bool :=
  match op with
  | .rlc => rlc v
  | .rrc => rrc v
  | .rl => rl v cin
  | .rr => rr v cin
  | .sla => sla v
  | .sra => sra v
  | .swap => swap v
  | .srl => srl v

/-- The common shape of R213 to R220. -/
def rotateOn (op : RotOp) (x : Loc8) (s : State) : Result :=
  let rc := rotResult op (s.loc x) s.flags.c
  modifyLoc x (rc.1, rotFlags rc.1 rc.2) 2 s

/-- BIT b,r (R221): the operand is not written. -/
def bitOn (b : BitIdx) (x : Loc8) (s : State) : Result :=
  flagsOnly (bitFlags (s.loc x) b.index s.flags) 2 s

/-- RES b,r (R222): no flag. -/
def resOn (b : BitIdx) (x : Loc8) (s : State) : Result :=
  andThen (writeLoc x (resetBit (s.loc x) b.index) s) fun t => .next (t.advance 2)

/-- SET b,r (R223): no flag. -/
def setOn (b : BitIdx) (x : Loc8) (s : State) : Result :=
  andThen (writeLoc x (setBit (s.loc x) b.index) s) fun t => .next (t.advance 2)

/-- Go to `target` where the condition holds, else past the `len` bytes of the instruction (R230, R232,
R235). -/
def jumpIf (taken : Bool) (target len : Word) (s : State) : Result :=
  .next (if taken then s.setPc target else s.advance len)

/-- Push the address of the next instruction and go to `target` (R236, R241). -/
def callTo (target len : Word) (s : State) : Result :=
  andThen (push16 (s.pc + len) s) fun t => .next (t.setPc target)

/-- CALL cc,a16 (R237). -/
def callIf (taken : Bool) (target : Word) (s : State) : Result :=
  if taken then callTo target 3 s else .next (s.advance 3)

/-- Pop the PC (R238). -/
def returnFrom (s : State) : Result := .next ((popState s).setPc (popValue s))

/-- RET cc (R239). -/
def returnIf (taken : Bool) (s : State) : Result :=
  if taken then returnFrom s else .next (s.advance 1)

/-- The eleven illegal opcodes (R256): a diagnostic and one byte, or a fault under the strict policy. -/
def illegalOn (op : IllegalOp) (s : State) : Result :=
  match s.policy.illegalOpcode with
  | .permissive => .next ((s.emit (.illegalOpcode op.opcode s.pc)).advance 1)
  | .strict => .fault (.illegalOpcode op.opcode s.pc)

end Sys2Proof.Machine
end

