-- ==== Sys2Proof/Machine/Alu16.lean ====
section
/-! DEFINITION. 16-bit arithmetic (43_alu16 R190 to R193). -/

namespace Sys2Proof.Machine

/-- `INC BC` (R191). -/
def exec_inc_BC (s : State) : Result :=
  loadPair .BC (s.pair .BC + 1) 1 s

/-- `ADD HL,BC` (R190). -/
def exec_add_HL_BC (s : State) : Result :=
  addHL .BC s

/-- `DEC BC` (R192). -/
def exec_dec_BC (s : State) : Result :=
  loadPair .BC (s.pair .BC - 1) 1 s

/-- `INC DE` (R191). -/
def exec_inc_DE (s : State) : Result :=
  loadPair .DE (s.pair .DE + 1) 1 s

/-- `ADD HL,DE` (R190). -/
def exec_add_HL_DE (s : State) : Result :=
  addHL .DE s

/-- `DEC DE` (R192). -/
def exec_dec_DE (s : State) : Result :=
  loadPair .DE (s.pair .DE - 1) 1 s

/-- `INC HL` (R191). -/
def exec_inc_HL (s : State) : Result :=
  loadPair .HL (s.pair .HL + 1) 1 s

/-- `ADD HL,HL` (R190). -/
def exec_add_HL_HL (s : State) : Result :=
  addHL .HL s

/-- `DEC HL` (R192). -/
def exec_dec_HL (s : State) : Result :=
  loadPair .HL (s.pair .HL - 1) 1 s

/-- `INC SP` (R191). -/
def exec_inc_SP (s : State) : Result :=
  loadPair .SP (s.pair .SP + 1) 1 s

/-- `ADD HL,SP` (R190). -/
def exec_add_HL_SP (s : State) : Result :=
  addHL .SP s

/-- `DEC SP` (R192). -/
def exec_dec_SP (s : State) : Result :=
  loadPair .SP (s.pair .SP - 1) 1 s

/-- `ADD SP,r8` (R193). -/
def exec_add_SP_r8 (r8 : Byte) (s : State) : Result :=
  .next (((s.setSp (addSp8 s.sp r8).1).setFlags (addSp8 s.sp r8).2).advance 2)

end Sys2Proof.Machine
end

