-- ==== Sys2Proof/Machine/Alu8.lean ====
section
/-! DEFINITION. 8-bit arithmetic and logic (42_alu8 R152 to R176). -/

namespace Sys2Proof.Machine

/-- `INC B` (R169). -/
def exec_inc_B (s : State) : Result :=
  incOn (.reg .B) s

/-- `DEC B` (R171). -/
def exec_dec_B (s : State) : Result :=
  decOn (.reg .B) s

/-- `INC C` (R169). -/
def exec_inc_C (s : State) : Result :=
  incOn (.reg .C) s

/-- `DEC C` (R171). -/
def exec_dec_C (s : State) : Result :=
  decOn (.reg .C) s

/-- `INC D` (R169). -/
def exec_inc_D (s : State) : Result :=
  incOn (.reg .D) s

/-- `DEC D` (R171). -/
def exec_dec_D (s : State) : Result :=
  decOn (.reg .D) s

/-- `INC E` (R169). -/
def exec_inc_E (s : State) : Result :=
  incOn (.reg .E) s

/-- `DEC E` (R171). -/
def exec_dec_E (s : State) : Result :=
  decOn (.reg .E) s

/-- `INC H` (R169). -/
def exec_inc_H (s : State) : Result :=
  incOn (.reg .H) s

/-- `DEC H` (R171). -/
def exec_dec_H (s : State) : Result :=
  decOn (.reg .H) s

/-- `DAA` (R173). -/
def exec_daa (s : State) : Result :=
  accResult (daa8 s.a s.flags) 1 s

/-- `INC L` (R169). -/
def exec_inc_L (s : State) : Result :=
  incOn (.reg .L) s

/-- `DEC L` (R171). -/
def exec_dec_L (s : State) : Result :=
  decOn (.reg .L) s

/-- `CPL` (R174). Z and C are kept. -/
def exec_cpl (s : State) : Result :=
  accResult (s.a ^^^ 0xFF, { s.flags with n := true, h := true }) 1 s

/-- `INC (HL)` (R170). -/
def exec_inc_mHL (s : State) : Result :=
  incOn .atHL s

/-- `DEC (HL)` (R172). -/
def exec_dec_mHL (s : State) : Result :=
  decOn .atHL s

/-- `SCF` (R175). -/
def exec_scf (s : State) : Result :=
  flagsOnly { s.flags with n := false, h := false, c := true } 1 s

/-- `INC A` (R169). -/
def exec_inc_A (s : State) : Result :=
  incOn (.reg .A) s

/-- `DEC A` (R171). -/
def exec_dec_A (s : State) : Result :=
  decOn (.reg .A) s

/-- `CCF` (R176). -/
def exec_ccf (s : State) : Result :=
  flagsOnly { s.flags with n := false, h := false, c := !s.flags.c } 1 s

/-- `ADD A,B` (R153). -/
def exec_add_A_B (s : State) : Result :=
  aluOn .add (s.loc (.reg .B)) 1 s

/-- `ADD A,C` (R153). -/
def exec_add_A_C (s : State) : Result :=
  aluOn .add (s.loc (.reg .C)) 1 s

/-- `ADD A,D` (R153). -/
def exec_add_A_D (s : State) : Result :=
  aluOn .add (s.loc (.reg .D)) 1 s

/-- `ADD A,E` (R153). -/
def exec_add_A_E (s : State) : Result :=
  aluOn .add (s.loc (.reg .E)) 1 s

/-- `ADD A,H` (R153). -/
def exec_add_A_H (s : State) : Result :=
  aluOn .add (s.loc (.reg .H)) 1 s

/-- `ADD A,L` (R153). -/
def exec_add_A_L (s : State) : Result :=
  aluOn .add (s.loc (.reg .L)) 1 s

/-- `ADD A,(HL)` (R153). -/
def exec_add_A_mHL (s : State) : Result :=
  aluOn .add (s.loc .atHL) 1 s

/-- `ADD A,A` (R153). -/
def exec_add_A_A (s : State) : Result :=
  aluOn .add (s.loc (.reg .A)) 1 s

/-- `ADC A,B` (R155). -/
def exec_adc_A_B (s : State) : Result :=
  aluOn .adc (s.loc (.reg .B)) 1 s

/-- `ADC A,C` (R155). -/
def exec_adc_A_C (s : State) : Result :=
  aluOn .adc (s.loc (.reg .C)) 1 s

/-- `ADC A,D` (R155). -/
def exec_adc_A_D (s : State) : Result :=
  aluOn .adc (s.loc (.reg .D)) 1 s

/-- `ADC A,E` (R155). -/
def exec_adc_A_E (s : State) : Result :=
  aluOn .adc (s.loc (.reg .E)) 1 s

/-- `ADC A,H` (R155). -/
def exec_adc_A_H (s : State) : Result :=
  aluOn .adc (s.loc (.reg .H)) 1 s

/-- `ADC A,L` (R155). -/
def exec_adc_A_L (s : State) : Result :=
  aluOn .adc (s.loc (.reg .L)) 1 s

/-- `ADC A,(HL)` (R155). -/
def exec_adc_A_mHL (s : State) : Result :=
  aluOn .adc (s.loc .atHL) 1 s

/-- `ADC A,A` (R155). -/
def exec_adc_A_A (s : State) : Result :=
  aluOn .adc (s.loc (.reg .A)) 1 s

/-- `SUB B` (R157). -/
def exec_sub_B (s : State) : Result :=
  aluOn .sub (s.loc (.reg .B)) 1 s

/-- `SUB C` (R157). -/
def exec_sub_C (s : State) : Result :=
  aluOn .sub (s.loc (.reg .C)) 1 s

/-- `SUB D` (R157). -/
def exec_sub_D (s : State) : Result :=
  aluOn .sub (s.loc (.reg .D)) 1 s

/-- `SUB E` (R157). -/
def exec_sub_E (s : State) : Result :=
  aluOn .sub (s.loc (.reg .E)) 1 s

/-- `SUB H` (R157). -/
def exec_sub_H (s : State) : Result :=
  aluOn .sub (s.loc (.reg .H)) 1 s

/-- `SUB L` (R157). -/
def exec_sub_L (s : State) : Result :=
  aluOn .sub (s.loc (.reg .L)) 1 s

/-- `SUB (HL)` (R157). -/
def exec_sub_mHL (s : State) : Result :=
  aluOn .sub (s.loc .atHL) 1 s

/-- `SUB A` (R157). -/
def exec_sub_A (s : State) : Result :=
  aluOn .sub (s.loc (.reg .A)) 1 s

/-- `SBC A,B` (R159). -/
def exec_sbc_A_B (s : State) : Result :=
  aluOn .sbc (s.loc (.reg .B)) 1 s

/-- `SBC A,C` (R159). -/
def exec_sbc_A_C (s : State) : Result :=
  aluOn .sbc (s.loc (.reg .C)) 1 s

/-- `SBC A,D` (R159). -/
def exec_sbc_A_D (s : State) : Result :=
  aluOn .sbc (s.loc (.reg .D)) 1 s

/-- `SBC A,E` (R159). -/
def exec_sbc_A_E (s : State) : Result :=
  aluOn .sbc (s.loc (.reg .E)) 1 s

/-- `SBC A,H` (R159). -/
def exec_sbc_A_H (s : State) : Result :=
  aluOn .sbc (s.loc (.reg .H)) 1 s

/-- `SBC A,L` (R159). -/
def exec_sbc_A_L (s : State) : Result :=
  aluOn .sbc (s.loc (.reg .L)) 1 s

/-- `SBC A,(HL)` (R159). -/
def exec_sbc_A_mHL (s : State) : Result :=
  aluOn .sbc (s.loc .atHL) 1 s

/-- `SBC A,A` (R159). -/
def exec_sbc_A_A (s : State) : Result :=
  aluOn .sbc (s.loc (.reg .A)) 1 s

/-- `AND B` (R161). -/
def exec_and_B (s : State) : Result :=
  aluOn .and (s.loc (.reg .B)) 1 s

/-- `AND C` (R161). -/
def exec_and_C (s : State) : Result :=
  aluOn .and (s.loc (.reg .C)) 1 s

/-- `AND D` (R161). -/
def exec_and_D (s : State) : Result :=
  aluOn .and (s.loc (.reg .D)) 1 s

/-- `AND E` (R161). -/
def exec_and_E (s : State) : Result :=
  aluOn .and (s.loc (.reg .E)) 1 s

/-- `AND H` (R161). -/
def exec_and_H (s : State) : Result :=
  aluOn .and (s.loc (.reg .H)) 1 s

/-- `AND L` (R161). -/
def exec_and_L (s : State) : Result :=
  aluOn .and (s.loc (.reg .L)) 1 s

/-- `AND (HL)` (R161). -/
def exec_and_mHL (s : State) : Result :=
  aluOn .and (s.loc .atHL) 1 s

/-- `AND A` (R161). -/
def exec_and_A (s : State) : Result :=
  aluOn .and (s.loc (.reg .A)) 1 s

/-- `XOR B` (R163). -/
def exec_xor_B (s : State) : Result :=
  aluOn .xor (s.loc (.reg .B)) 1 s

/-- `XOR C` (R163). -/
def exec_xor_C (s : State) : Result :=
  aluOn .xor (s.loc (.reg .C)) 1 s

/-- `XOR D` (R163). -/
def exec_xor_D (s : State) : Result :=
  aluOn .xor (s.loc (.reg .D)) 1 s

/-- `XOR E` (R163). -/
def exec_xor_E (s : State) : Result :=
  aluOn .xor (s.loc (.reg .E)) 1 s

/-- `XOR H` (R163). -/
def exec_xor_H (s : State) : Result :=
  aluOn .xor (s.loc (.reg .H)) 1 s

/-- `XOR L` (R163). -/
def exec_xor_L (s : State) : Result :=
  aluOn .xor (s.loc (.reg .L)) 1 s

/-- `XOR (HL)` (R163). -/
def exec_xor_mHL (s : State) : Result :=
  aluOn .xor (s.loc .atHL) 1 s

/-- `XOR A` (R163). -/
def exec_xor_A (s : State) : Result :=
  aluOn .xor (s.loc (.reg .A)) 1 s

/-- `OR B` (R165). -/
def exec_or_B (s : State) : Result :=
  aluOn .or (s.loc (.reg .B)) 1 s

/-- `OR C` (R165). -/
def exec_or_C (s : State) : Result :=
  aluOn .or (s.loc (.reg .C)) 1 s

/-- `OR D` (R165). -/
def exec_or_D (s : State) : Result :=
  aluOn .or (s.loc (.reg .D)) 1 s

/-- `OR E` (R165). -/
def exec_or_E (s : State) : Result :=
  aluOn .or (s.loc (.reg .E)) 1 s

/-- `OR H` (R165). -/
def exec_or_H (s : State) : Result :=
  aluOn .or (s.loc (.reg .H)) 1 s

/-- `OR L` (R165). -/
def exec_or_L (s : State) : Result :=
  aluOn .or (s.loc (.reg .L)) 1 s

/-- `OR (HL)` (R165). -/
def exec_or_mHL (s : State) : Result :=
  aluOn .or (s.loc .atHL) 1 s

/-- `OR A` (R165). -/
def exec_or_A (s : State) : Result :=
  aluOn .or (s.loc (.reg .A)) 1 s

/-- `CP B` (R167). -/
def exec_cp_B (s : State) : Result :=
  aluOn .cp (s.loc (.reg .B)) 1 s

/-- `CP C` (R167). -/
def exec_cp_C (s : State) : Result :=
  aluOn .cp (s.loc (.reg .C)) 1 s

/-- `CP D` (R167). -/
def exec_cp_D (s : State) : Result :=
  aluOn .cp (s.loc (.reg .D)) 1 s

/-- `CP E` (R167). -/
def exec_cp_E (s : State) : Result :=
  aluOn .cp (s.loc (.reg .E)) 1 s

/-- `CP H` (R167). -/
def exec_cp_H (s : State) : Result :=
  aluOn .cp (s.loc (.reg .H)) 1 s

/-- `CP L` (R167). -/
def exec_cp_L (s : State) : Result :=
  aluOn .cp (s.loc (.reg .L)) 1 s

/-- `CP (HL)` (R167). -/
def exec_cp_mHL (s : State) : Result :=
  aluOn .cp (s.loc .atHL) 1 s

/-- `CP A` (R167). -/
def exec_cp_A (s : State) : Result :=
  aluOn .cp (s.loc (.reg .A)) 1 s

/-- `ADD A,d8` (R154). -/
def exec_add_A_d8 (d8 : Byte) (s : State) : Result :=
  aluOn .add d8 2 s

/-- `ADC A,d8` (R156). -/
def exec_adc_A_d8 (d8 : Byte) (s : State) : Result :=
  aluOn .adc d8 2 s

/-- `SUB d8` (R158). -/
def exec_sub_d8 (d8 : Byte) (s : State) : Result :=
  aluOn .sub d8 2 s

/-- `SBC A,d8` (R160). -/
def exec_sbc_A_d8 (d8 : Byte) (s : State) : Result :=
  aluOn .sbc d8 2 s

/-- `AND d8` (R162). -/
def exec_and_d8 (d8 : Byte) (s : State) : Result :=
  aluOn .and d8 2 s

/-- `XOR d8` (R164). -/
def exec_xor_d8 (d8 : Byte) (s : State) : Result :=
  aluOn .xor d8 2 s

/-- `OR d8` (R166). -/
def exec_or_d8 (d8 : Byte) (s : State) : Result :=
  aluOn .or d8 2 s

/-- `CP d8` (R168). -/
def exec_cp_d8 (d8 : Byte) (s : State) : Result :=
  aluOn .cp d8 2 s

end Sys2Proof.Machine
end

