-- ==== Sys2Proof/Machine/Control.lean ====
section
/-! DEFINITION. Jumps, calls and returns (45_control R231 to R241): no flag. -/

namespace Sys2Proof.Machine

/-- `JR r8` (R234). -/
def exec_jr_r8 (r8 : Byte) (s : State) : Result :=
  .next (s.setPc (jrTarget s r8))

/-- `JR NZ,r8` (R235). -/
def exec_jr_NZ_r8 (r8 : Byte) (s : State) : Result :=
  jumpIf (s.cond .NZ) (jrTarget s r8) 2 s

/-- `JR Z,r8` (R235). -/
def exec_jr_Z_r8 (r8 : Byte) (s : State) : Result :=
  jumpIf (s.cond .Z) (jrTarget s r8) 2 s

/-- `JR NC,r8` (R235). -/
def exec_jr_NC_r8 (r8 : Byte) (s : State) : Result :=
  jumpIf (s.cond .NC) (jrTarget s r8) 2 s

/-- `JR C,r8` (R235). -/
def exec_jr_C_r8 (r8 : Byte) (s : State) : Result :=
  jumpIf (s.cond .C) (jrTarget s r8) 2 s

/-- `RET NZ` (R239). -/
def exec_ret_NZ (s : State) : Result :=
  returnIf (s.cond .NZ) s

/-- `JP NZ,a16` (R232). -/
def exec_jp_NZ_a16 (a16 : Word) (s : State) : Result :=
  jumpIf (s.cond .NZ) a16 3 s

/-- `JP a16` (R231). -/
def exec_jp_a16 (a16 : Word) (s : State) : Result :=
  .next (s.setPc a16)

/-- `CALL NZ,a16` (R237). -/
def exec_call_NZ_a16 (a16 : Word) (s : State) : Result :=
  callIf (s.cond .NZ) a16 s

/-- `RST 00H` (R241). -/
def exec_rst_00 (s : State) : Result :=
  callTo (RstTarget.address .t00) 1 s

/-- `RET Z` (R239). -/
def exec_ret_Z (s : State) : Result :=
  returnIf (s.cond .Z) s

/-- `RET` (R238). -/
def exec_ret (s : State) : Result :=
  returnFrom s

/-- `JP Z,a16` (R232). -/
def exec_jp_Z_a16 (a16 : Word) (s : State) : Result :=
  jumpIf (s.cond .Z) a16 3 s

/-- `CALL Z,a16` (R237). -/
def exec_call_Z_a16 (a16 : Word) (s : State) : Result :=
  callIf (s.cond .Z) a16 s

/-- `CALL a16` (R236). The target was read before the push, D31. -/
def exec_call_a16 (a16 : Word) (s : State) : Result :=
  callTo a16 3 s

/-- `RST 08H` (R241). -/
def exec_rst_08 (s : State) : Result :=
  callTo (RstTarget.address .t08) 1 s

/-- `RET NC` (R239). -/
def exec_ret_NC (s : State) : Result :=
  returnIf (s.cond .NC) s

/-- `JP NC,a16` (R232). -/
def exec_jp_NC_a16 (a16 : Word) (s : State) : Result :=
  jumpIf (s.cond .NC) a16 3 s

/-- `CALL NC,a16` (R237). -/
def exec_call_NC_a16 (a16 : Word) (s : State) : Result :=
  callIf (s.cond .NC) a16 s

/-- `RST 10H` (R241). -/
def exec_rst_10 (s : State) : Result :=
  callTo (RstTarget.address .t10) 1 s

/-- `RET C` (R239). -/
def exec_ret_C (s : State) : Result :=
  returnIf (s.cond .C) s

/-- `RETI` (R240). PC is popped, `ime` becomes Enabled at once. -/
def exec_reti (s : State) : Result :=
  returnFromInterrupt s

/-- `JP C,a16` (R232). -/
def exec_jp_C_a16 (a16 : Word) (s : State) : Result :=
  jumpIf (s.cond .C) a16 3 s

/-- `CALL C,a16` (R237). -/
def exec_call_C_a16 (a16 : Word) (s : State) : Result :=
  callIf (s.cond .C) a16 s

/-- `RST 18H` (R241). -/
def exec_rst_18 (s : State) : Result :=
  callTo (RstTarget.address .t18) 1 s

/-- `RST 20H` (R241). -/
def exec_rst_20 (s : State) : Result :=
  callTo (RstTarget.address .t20) 1 s

/-- `JP (HL)` (R233). -/
def exec_jp_mHL (s : State) : Result :=
  .next (s.setPc s.hl)

/-- `RST 28H` (R241). -/
def exec_rst_28 (s : State) : Result :=
  callTo (RstTarget.address .t28) 1 s

/-- `RST 30H` (R241). -/
def exec_rst_30 (s : State) : Result :=
  callTo (RstTarget.address .t30) 1 s

/-- `RST 38H` (R241). -/
def exec_rst_38 (s : State) : Result :=
  callTo (RstTarget.address .t38) 1 s

end Sys2Proof.Machine
end

