-- ==== Sys2Proof/Machine/Load16.lean ====
section
/-! DEFINITION. The 16-bit loads and the stack instructions (41_load16_stack R132 to R137). -/

namespace Sys2Proof.Machine

/-- `LD BC,d16` (R132). -/
def exec_ld_BC_d16 (d16 : Word) (s : State) : Result :=
  loadPair .BC d16 3 s

/-- `LD (a16),SP` (R133). -/
def exec_ld_ma16_SP (a16 : Word) (s : State) : Result :=
  andThen (busWrite16 a16 s.sp s) fun t => .next (t.advance 3)

/-- `LD DE,d16` (R132). -/
def exec_ld_DE_d16 (d16 : Word) (s : State) : Result :=
  loadPair .DE d16 3 s

/-- `LD HL,d16` (R132). -/
def exec_ld_HL_d16 (d16 : Word) (s : State) : Result :=
  loadPair .HL d16 3 s

/-- `LD SP,d16` (R132). -/
def exec_ld_SP_d16 (d16 : Word) (s : State) : Result :=
  loadPair .SP d16 3 s

/-- `POP BC` (R137). -/
def exec_pop_BC (s : State) : Result :=
  popPair .BC s

/-- `PUSH BC` (R136). -/
def exec_push_BC (s : State) : Result :=
  pushPair .BC s

/-- `POP DE` (R137). -/
def exec_pop_DE (s : State) : Result :=
  popPair .DE s

/-- `PUSH DE` (R136). -/
def exec_push_DE (s : State) : Result :=
  pushPair .DE s

/-- `POP HL` (R137). -/
def exec_pop_HL (s : State) : Result :=
  popPair .HL s

/-- `PUSH HL` (R136). -/
def exec_push_HL (s : State) : Result :=
  pushPair .HL s

/-- `POP AF` (R137). -/
def exec_pop_AF (s : State) : Result :=
  popPair .AF s

/-- `PUSH AF` (R136). -/
def exec_push_AF (s : State) : Result :=
  pushPair .AF s

/-- `LD HL,SP+r8` (R135). -/
def exec_ld_HL_SPr8 (r8 : Byte) (s : State) : Result :=
  .next (((s.setHl (addSp8 s.sp r8).1).setFlags (addSp8 s.sp r8).2).advance 2)

/-- `LD SP,HL` (R134). -/
def exec_ld_SP_HL (s : State) : Result :=
  .next ((s.setSp s.hl).advance 1)

end Sys2Proof.Machine
end

