-- ==== Sys2Proof/Machine/Load8.lean ====
section
/-! DEFINITION. The 8-bit loads (40_load8 R100 to R118): no flag; stores go through the bus policy. -/

namespace Sys2Proof.Machine

/-- `LD (BC),A` (R107). -/
def exec_ld_mBC_A (s : State) : Result :=
  storeByte s.bc s.a 1 s

/-- `LD B,d8` (R101). -/
def exec_ld_B_d8 (d8 : Byte) (s : State) : Result :=
  loadReg .B d8 2 s

/-- `LD A,(BC)` (R105). -/
def exec_ld_A_mBC (s : State) : Result :=
  loadReg .A (s.memRead s.bc) 1 s

/-- `LD C,d8` (R101). -/
def exec_ld_C_d8 (d8 : Byte) (s : State) : Result :=
  loadReg .C d8 2 s

/-- `LD (DE),A` (R108). -/
def exec_ld_mDE_A (s : State) : Result :=
  storeByte s.de s.a 1 s

/-- `LD D,d8` (R101). -/
def exec_ld_D_d8 (d8 : Byte) (s : State) : Result :=
  loadReg .D d8 2 s

/-- `LD A,(DE)` (R106). -/
def exec_ld_A_mDE (s : State) : Result :=
  loadReg .A (s.memRead s.de) 1 s

/-- `LD E,d8` (R101). -/
def exec_ld_E_d8 (d8 : Byte) (s : State) : Result :=
  loadReg .E d8 2 s

/-- `LD (HL+),A` (R115). -/
def exec_ld_mHLi_A (s : State) : Result :=
  storeAStepHL 1 s

/-- `LD H,d8` (R101). -/
def exec_ld_H_d8 (d8 : Byte) (s : State) : Result :=
  loadReg .H d8 2 s

/-- `LD A,(HL+)` (R116). -/
def exec_ld_A_mHLi (s : State) : Result :=
  loadAStepHL 1 s

/-- `LD L,d8` (R101). -/
def exec_ld_L_d8 (d8 : Byte) (s : State) : Result :=
  loadReg .L d8 2 s

/-- `LD (HL-),A` (R117). -/
def exec_ld_mHLd_A (s : State) : Result :=
  storeAStepHL (-1) s

/-- `LD (HL),d8` (R104). -/
def exec_ld_mHL_d8 (d8 : Byte) (s : State) : Result :=
  storeByte s.hl d8 2 s

/-- `LD A,(HL-)` (R118). -/
def exec_ld_A_mHLd (s : State) : Result :=
  loadAStepHL (-1) s

/-- `LD A,d8` (R101). -/
def exec_ld_A_d8 (d8 : Byte) (s : State) : Result :=
  loadReg .A d8 2 s

/-- `LD B,B` (R100). -/
def exec_ld_B_B (s : State) : Result :=
  loadReg .B (s.reg .B) 1 s

/-- `LD B,C` (R100). -/
def exec_ld_B_C (s : State) : Result :=
  loadReg .B (s.reg .C) 1 s

/-- `LD B,D` (R100). -/
def exec_ld_B_D (s : State) : Result :=
  loadReg .B (s.reg .D) 1 s

/-- `LD B,E` (R100). -/
def exec_ld_B_E (s : State) : Result :=
  loadReg .B (s.reg .E) 1 s

/-- `LD B,H` (R100). -/
def exec_ld_B_H (s : State) : Result :=
  loadReg .B (s.reg .H) 1 s

/-- `LD B,L` (R100). -/
def exec_ld_B_L (s : State) : Result :=
  loadReg .B (s.reg .L) 1 s

/-- `LD B,(HL)` (R102). -/
def exec_ld_B_mHL (s : State) : Result :=
  loadReg .B (s.memRead s.hl) 1 s

/-- `LD B,A` (R100). -/
def exec_ld_B_A (s : State) : Result :=
  loadReg .B (s.reg .A) 1 s

/-- `LD C,B` (R100). -/
def exec_ld_C_B (s : State) : Result :=
  loadReg .C (s.reg .B) 1 s

/-- `LD C,C` (R100). -/
def exec_ld_C_C (s : State) : Result :=
  loadReg .C (s.reg .C) 1 s

/-- `LD C,D` (R100). -/
def exec_ld_C_D (s : State) : Result :=
  loadReg .C (s.reg .D) 1 s

/-- `LD C,E` (R100). -/
def exec_ld_C_E (s : State) : Result :=
  loadReg .C (s.reg .E) 1 s

/-- `LD C,H` (R100). -/
def exec_ld_C_H (s : State) : Result :=
  loadReg .C (s.reg .H) 1 s

/-- `LD C,L` (R100). -/
def exec_ld_C_L (s : State) : Result :=
  loadReg .C (s.reg .L) 1 s

/-- `LD C,(HL)` (R102). -/
def exec_ld_C_mHL (s : State) : Result :=
  loadReg .C (s.memRead s.hl) 1 s

/-- `LD C,A` (R100). -/
def exec_ld_C_A (s : State) : Result :=
  loadReg .C (s.reg .A) 1 s

/-- `LD D,B` (R100). -/
def exec_ld_D_B (s : State) : Result :=
  loadReg .D (s.reg .B) 1 s

/-- `LD D,C` (R100). -/
def exec_ld_D_C (s : State) : Result :=
  loadReg .D (s.reg .C) 1 s

/-- `LD D,D` (R100). -/
def exec_ld_D_D (s : State) : Result :=
  loadReg .D (s.reg .D) 1 s

/-- `LD D,E` (R100). -/
def exec_ld_D_E (s : State) : Result :=
  loadReg .D (s.reg .E) 1 s

/-- `LD D,H` (R100). -/
def exec_ld_D_H (s : State) : Result :=
  loadReg .D (s.reg .H) 1 s

/-- `LD D,L` (R100). -/
def exec_ld_D_L (s : State) : Result :=
  loadReg .D (s.reg .L) 1 s

/-- `LD D,(HL)` (R102). -/
def exec_ld_D_mHL (s : State) : Result :=
  loadReg .D (s.memRead s.hl) 1 s

/-- `LD D,A` (R100). -/
def exec_ld_D_A (s : State) : Result :=
  loadReg .D (s.reg .A) 1 s

/-- `LD E,B` (R100). -/
def exec_ld_E_B (s : State) : Result :=
  loadReg .E (s.reg .B) 1 s

/-- `LD E,C` (R100). -/
def exec_ld_E_C (s : State) : Result :=
  loadReg .E (s.reg .C) 1 s

/-- `LD E,D` (R100). -/
def exec_ld_E_D (s : State) : Result :=
  loadReg .E (s.reg .D) 1 s

/-- `LD E,E` (R100). -/
def exec_ld_E_E (s : State) : Result :=
  loadReg .E (s.reg .E) 1 s

/-- `LD E,H` (R100). -/
def exec_ld_E_H (s : State) : Result :=
  loadReg .E (s.reg .H) 1 s

/-- `LD E,L` (R100). -/
def exec_ld_E_L (s : State) : Result :=
  loadReg .E (s.reg .L) 1 s

/-- `LD E,(HL)` (R102). -/
def exec_ld_E_mHL (s : State) : Result :=
  loadReg .E (s.memRead s.hl) 1 s

/-- `LD E,A` (R100). -/
def exec_ld_E_A (s : State) : Result :=
  loadReg .E (s.reg .A) 1 s

/-- `LD H,B` (R100). -/
def exec_ld_H_B (s : State) : Result :=
  loadReg .H (s.reg .B) 1 s

/-- `LD H,C` (R100). -/
def exec_ld_H_C (s : State) : Result :=
  loadReg .H (s.reg .C) 1 s

/-- `LD H,D` (R100). -/
def exec_ld_H_D (s : State) : Result :=
  loadReg .H (s.reg .D) 1 s

/-- `LD H,E` (R100). -/
def exec_ld_H_E (s : State) : Result :=
  loadReg .H (s.reg .E) 1 s

/-- `LD H,H` (R100). -/
def exec_ld_H_H (s : State) : Result :=
  loadReg .H (s.reg .H) 1 s

/-- `LD H,L` (R100). -/
def exec_ld_H_L (s : State) : Result :=
  loadReg .H (s.reg .L) 1 s

/-- `LD H,(HL)` (R102). -/
def exec_ld_H_mHL (s : State) : Result :=
  loadReg .H (s.memRead s.hl) 1 s

/-- `LD H,A` (R100). -/
def exec_ld_H_A (s : State) : Result :=
  loadReg .H (s.reg .A) 1 s

/-- `LD L,B` (R100). -/
def exec_ld_L_B (s : State) : Result :=
  loadReg .L (s.reg .B) 1 s

/-- `LD L,C` (R100). -/
def exec_ld_L_C (s : State) : Result :=
  loadReg .L (s.reg .C) 1 s

/-- `LD L,D` (R100). -/
def exec_ld_L_D (s : State) : Result :=
  loadReg .L (s.reg .D) 1 s

/-- `LD L,E` (R100). -/
def exec_ld_L_E (s : State) : Result :=
  loadReg .L (s.reg .E) 1 s

/-- `LD L,H` (R100). -/
def exec_ld_L_H (s : State) : Result :=
  loadReg .L (s.reg .H) 1 s

/-- `LD L,L` (R100). -/
def exec_ld_L_L (s : State) : Result :=
  loadReg .L (s.reg .L) 1 s

/-- `LD L,(HL)` (R102). -/
def exec_ld_L_mHL (s : State) : Result :=
  loadReg .L (s.memRead s.hl) 1 s

/-- `LD L,A` (R100). -/
def exec_ld_L_A (s : State) : Result :=
  loadReg .L (s.reg .A) 1 s

/-- `LD (HL),B` (R103). -/
def exec_ld_mHL_B (s : State) : Result :=
  storeByte s.hl (s.reg .B) 1 s

/-- `LD (HL),C` (R103). -/
def exec_ld_mHL_C (s : State) : Result :=
  storeByte s.hl (s.reg .C) 1 s

/-- `LD (HL),D` (R103). -/
def exec_ld_mHL_D (s : State) : Result :=
  storeByte s.hl (s.reg .D) 1 s

/-- `LD (HL),E` (R103). -/
def exec_ld_mHL_E (s : State) : Result :=
  storeByte s.hl (s.reg .E) 1 s

/-- `LD (HL),H` (R103). -/
def exec_ld_mHL_H (s : State) : Result :=
  storeByte s.hl (s.reg .H) 1 s

/-- `LD (HL),L` (R103). -/
def exec_ld_mHL_L (s : State) : Result :=
  storeByte s.hl (s.reg .L) 1 s

/-- `LD (HL),A` (R103). -/
def exec_ld_mHL_A (s : State) : Result :=
  storeByte s.hl (s.reg .A) 1 s

/-- `LD A,B` (R100). -/
def exec_ld_A_B (s : State) : Result :=
  loadReg .A (s.reg .B) 1 s

/-- `LD A,C` (R100). -/
def exec_ld_A_C (s : State) : Result :=
  loadReg .A (s.reg .C) 1 s

/-- `LD A,D` (R100). -/
def exec_ld_A_D (s : State) : Result :=
  loadReg .A (s.reg .D) 1 s

/-- `LD A,E` (R100). -/
def exec_ld_A_E (s : State) : Result :=
  loadReg .A (s.reg .E) 1 s

/-- `LD A,H` (R100). -/
def exec_ld_A_H (s : State) : Result :=
  loadReg .A (s.reg .H) 1 s

/-- `LD A,L` (R100). -/
def exec_ld_A_L (s : State) : Result :=
  loadReg .A (s.reg .L) 1 s

/-- `LD A,(HL)` (R102). -/
def exec_ld_A_mHL (s : State) : Result :=
  loadReg .A (s.memRead s.hl) 1 s

/-- `LD A,A` (R100). -/
def exec_ld_A_A (s : State) : Result :=
  loadReg .A (s.reg .A) 1 s

/-- `LDH (a8),A` (R111). -/
def exec_ldh_ma8_A (a8 : Byte) (s : State) : Result :=
  storeByte (ioPage a8) s.a 2 s

/-- `LD (C),A` (R113). -/
def exec_ld_mC_A (s : State) : Result :=
  storeByte (ioPage s.c) s.a 1 s

/-- `LD (a16),A` (R110). -/
def exec_ld_ma16_A (a16 : Word) (s : State) : Result :=
  storeByte a16 s.a 3 s

/-- `LDH A,(a8)` (R112). -/
def exec_ldh_A_ma8 (a8 : Byte) (s : State) : Result :=
  loadReg .A (s.memRead (ioPage a8)) 2 s

/-- `LD A,(C)` (R114). -/
def exec_ld_A_mC (s : State) : Result :=
  loadReg .A (s.memRead (ioPage s.c)) 1 s

/-- `LD A,(a16)` (R109). -/
def exec_ld_A_ma16 (a16 : Word) (s : State) : Result :=
  loadReg .A (s.memRead a16) 3 s

end Sys2Proof.Machine
end

