-- ==== Sys2Proof/Machine/RotateBit.lean ====
section
/-! DEFINITION. Rotates, shifts and bit operations (44_rotate_shift_bit R208 to R223). -/

namespace Sys2Proof.Machine

/-- `RLCA` (R209). -/
def exec_rlca (s : State) : Result :=
  rotateAcc (rlc s.a) s

/-- `RRCA` (R210). -/
def exec_rrca (s : State) : Result :=
  rotateAcc (rrc s.a) s

/-- `RLA` (R211). -/
def exec_rla (s : State) : Result :=
  rotateAcc (rl s.a s.flags.c) s

/-- `RRA` (R212). -/
def exec_rra (s : State) : Result :=
  rotateAcc (rr s.a s.flags.c) s

/-- `RLC B` (R213). -/
def exec_rlc_B (s : State) : Result :=
  rotateOn .rlc (.reg .B) s

/-- `RLC C` (R213). -/
def exec_rlc_C (s : State) : Result :=
  rotateOn .rlc (.reg .C) s

/-- `RLC D` (R213). -/
def exec_rlc_D (s : State) : Result :=
  rotateOn .rlc (.reg .D) s

/-- `RLC E` (R213). -/
def exec_rlc_E (s : State) : Result :=
  rotateOn .rlc (.reg .E) s

/-- `RLC H` (R213). -/
def exec_rlc_H (s : State) : Result :=
  rotateOn .rlc (.reg .H) s

/-- `RLC L` (R213). -/
def exec_rlc_L (s : State) : Result :=
  rotateOn .rlc (.reg .L) s

/-- `RLC (HL)` (R213). -/
def exec_rlc_mHL (s : State) : Result :=
  rotateOn .rlc .atHL s

/-- `RLC A` (R213). -/
def exec_rlc_A (s : State) : Result :=
  rotateOn .rlc (.reg .A) s

/-- `RRC B` (R214). -/
def exec_rrc_B (s : State) : Result :=
  rotateOn .rrc (.reg .B) s

/-- `RRC C` (R214). -/
def exec_rrc_C (s : State) : Result :=
  rotateOn .rrc (.reg .C) s

/-- `RRC D` (R214). -/
def exec_rrc_D (s : State) : Result :=
  rotateOn .rrc (.reg .D) s

/-- `RRC E` (R214). -/
def exec_rrc_E (s : State) : Result :=
  rotateOn .rrc (.reg .E) s

/-- `RRC H` (R214). -/
def exec_rrc_H (s : State) : Result :=
  rotateOn .rrc (.reg .H) s

/-- `RRC L` (R214). -/
def exec_rrc_L (s : State) : Result :=
  rotateOn .rrc (.reg .L) s

/-- `RRC (HL)` (R214). -/
def exec_rrc_mHL (s : State) : Result :=
  rotateOn .rrc .atHL s

/-- `RRC A` (R214). -/
def exec_rrc_A (s : State) : Result :=
  rotateOn .rrc (.reg .A) s

/-- `RL B` (R215). -/
def exec_rl_B (s : State) : Result :=
  rotateOn .rl (.reg .B) s

/-- `RL C` (R215). -/
def exec_rl_C (s : State) : Result :=
  rotateOn .rl (.reg .C) s

/-- `RL D` (R215). -/
def exec_rl_D (s : State) : Result :=
  rotateOn .rl (.reg .D) s

/-- `RL E` (R215). -/
def exec_rl_E (s : State) : Result :=
  rotateOn .rl (.reg .E) s

/-- `RL H` (R215). -/
def exec_rl_H (s : State) : Result :=
  rotateOn .rl (.reg .H) s

/-- `RL L` (R215). -/
def exec_rl_L (s : State) : Result :=
  rotateOn .rl (.reg .L) s

/-- `RL (HL)` (R215). -/
def exec_rl_mHL (s : State) : Result :=
  rotateOn .rl .atHL s

/-- `RL A` (R215). -/
def exec_rl_A (s : State) : Result :=
  rotateOn .rl (.reg .A) s

/-- `RR B` (R216). -/
def exec_rr_B (s : State) : Result :=
  rotateOn .rr (.reg .B) s

/-- `RR C` (R216). -/
def exec_rr_C (s : State) : Result :=
  rotateOn .rr (.reg .C) s

/-- `RR D` (R216). -/
def exec_rr_D (s : State) : Result :=
  rotateOn .rr (.reg .D) s

/-- `RR E` (R216). -/
def exec_rr_E (s : State) : Result :=
  rotateOn .rr (.reg .E) s

/-- `RR H` (R216). -/
def exec_rr_H (s : State) : Result :=
  rotateOn .rr (.reg .H) s

/-- `RR L` (R216). -/
def exec_rr_L (s : State) : Result :=
  rotateOn .rr (.reg .L) s

/-- `RR (HL)` (R216). -/
def exec_rr_mHL (s : State) : Result :=
  rotateOn .rr .atHL s

/-- `RR A` (R216). -/
def exec_rr_A (s : State) : Result :=
  rotateOn .rr (.reg .A) s

/-- `SLA B` (R217). -/
def exec_sla_B (s : State) : Result :=
  rotateOn .sla (.reg .B) s

/-- `SLA C` (R217). -/
def exec_sla_C (s : State) : Result :=
  rotateOn .sla (.reg .C) s

/-- `SLA D` (R217). -/
def exec_sla_D (s : State) : Result :=
  rotateOn .sla (.reg .D) s

/-- `SLA E` (R217). -/
def exec_sla_E (s : State) : Result :=
  rotateOn .sla (.reg .E) s

/-- `SLA H` (R217). -/
def exec_sla_H (s : State) : Result :=
  rotateOn .sla (.reg .H) s

/-- `SLA L` (R217). -/
def exec_sla_L (s : State) : Result :=
  rotateOn .sla (.reg .L) s

/-- `SLA (HL)` (R217). -/
def exec_sla_mHL (s : State) : Result :=
  rotateOn .sla .atHL s

/-- `SLA A` (R217). -/
def exec_sla_A (s : State) : Result :=
  rotateOn .sla (.reg .A) s

/-- `SRA B` (R218). -/
def exec_sra_B (s : State) : Result :=
  rotateOn .sra (.reg .B) s

/-- `SRA C` (R218). -/
def exec_sra_C (s : State) : Result :=
  rotateOn .sra (.reg .C) s

/-- `SRA D` (R218). -/
def exec_sra_D (s : State) : Result :=
  rotateOn .sra (.reg .D) s

/-- `SRA E` (R218). -/
def exec_sra_E (s : State) : Result :=
  rotateOn .sra (.reg .E) s

/-- `SRA H` (R218). -/
def exec_sra_H (s : State) : Result :=
  rotateOn .sra (.reg .H) s

/-- `SRA L` (R218). -/
def exec_sra_L (s : State) : Result :=
  rotateOn .sra (.reg .L) s

/-- `SRA (HL)` (R218). -/
def exec_sra_mHL (s : State) : Result :=
  rotateOn .sra .atHL s

/-- `SRA A` (R218). -/
def exec_sra_A (s : State) : Result :=
  rotateOn .sra (.reg .A) s

/-- `SWAP B` (R219). -/
def exec_swap_B (s : State) : Result :=
  rotateOn .swap (.reg .B) s

/-- `SWAP C` (R219). -/
def exec_swap_C (s : State) : Result :=
  rotateOn .swap (.reg .C) s

/-- `SWAP D` (R219). -/
def exec_swap_D (s : State) : Result :=
  rotateOn .swap (.reg .D) s

/-- `SWAP E` (R219). -/
def exec_swap_E (s : State) : Result :=
  rotateOn .swap (.reg .E) s

/-- `SWAP H` (R219). -/
def exec_swap_H (s : State) : Result :=
  rotateOn .swap (.reg .H) s

/-- `SWAP L` (R219). -/
def exec_swap_L (s : State) : Result :=
  rotateOn .swap (.reg .L) s

/-- `SWAP (HL)` (R219). -/
def exec_swap_mHL (s : State) : Result :=
  rotateOn .swap .atHL s

/-- `SWAP A` (R219). -/
def exec_swap_A (s : State) : Result :=
  rotateOn .swap (.reg .A) s

/-- `SRL B` (R220). -/
def exec_srl_B (s : State) : Result :=
  rotateOn .srl (.reg .B) s

/-- `SRL C` (R220). -/
def exec_srl_C (s : State) : Result :=
  rotateOn .srl (.reg .C) s

/-- `SRL D` (R220). -/
def exec_srl_D (s : State) : Result :=
  rotateOn .srl (.reg .D) s

/-- `SRL E` (R220). -/
def exec_srl_E (s : State) : Result :=
  rotateOn .srl (.reg .E) s

/-- `SRL H` (R220). -/
def exec_srl_H (s : State) : Result :=
  rotateOn .srl (.reg .H) s

/-- `SRL L` (R220). -/
def exec_srl_L (s : State) : Result :=
  rotateOn .srl (.reg .L) s

/-- `SRL (HL)` (R220). -/
def exec_srl_mHL (s : State) : Result :=
  rotateOn .srl .atHL s

/-- `SRL A` (R220). -/
def exec_srl_A (s : State) : Result :=
  rotateOn .srl (.reg .A) s

/-- `BIT 0,B` (R221). -/
def exec_bit_0_B (s : State) : Result :=
  bitOn .b0 (.reg .B) s

/-- `BIT 0,C` (R221). -/
def exec_bit_0_C (s : State) : Result :=
  bitOn .b0 (.reg .C) s

/-- `BIT 0,D` (R221). -/
def exec_bit_0_D (s : State) : Result :=
  bitOn .b0 (.reg .D) s

/-- `BIT 0,E` (R221). -/
def exec_bit_0_E (s : State) : Result :=
  bitOn .b0 (.reg .E) s

/-- `BIT 0,H` (R221). -/
def exec_bit_0_H (s : State) : Result :=
  bitOn .b0 (.reg .H) s

/-- `BIT 0,L` (R221). -/
def exec_bit_0_L (s : State) : Result :=
  bitOn .b0 (.reg .L) s

/-- `BIT 0,(HL)` (R221). -/
def exec_bit_0_mHL (s : State) : Result :=
  bitOn .b0 .atHL s

/-- `BIT 0,A` (R221). -/
def exec_bit_0_A (s : State) : Result :=
  bitOn .b0 (.reg .A) s

/-- `BIT 1,B` (R221). -/
def exec_bit_1_B (s : State) : Result :=
  bitOn .b1 (.reg .B) s

/-- `BIT 1,C` (R221). -/
def exec_bit_1_C (s : State) : Result :=
  bitOn .b1 (.reg .C) s

/-- `BIT 1,D` (R221). -/
def exec_bit_1_D (s : State) : Result :=
  bitOn .b1 (.reg .D) s

/-- `BIT 1,E` (R221). -/
def exec_bit_1_E (s : State) : Result :=
  bitOn .b1 (.reg .E) s

/-- `BIT 1,H` (R221). -/
def exec_bit_1_H (s : State) : Result :=
  bitOn .b1 (.reg .H) s

/-- `BIT 1,L` (R221). -/
def exec_bit_1_L (s : State) : Result :=
  bitOn .b1 (.reg .L) s

/-- `BIT 1,(HL)` (R221). -/
def exec_bit_1_mHL (s : State) : Result :=
  bitOn .b1 .atHL s

/-- `BIT 1,A` (R221). -/
def exec_bit_1_A (s : State) : Result :=
  bitOn .b1 (.reg .A) s

/-- `BIT 2,B` (R221). -/
def exec_bit_2_B (s : State) : Result :=
  bitOn .b2 (.reg .B) s

/-- `BIT 2,C` (R221). -/
def exec_bit_2_C (s : State) : Result :=
  bitOn .b2 (.reg .C) s

/-- `BIT 2,D` (R221). -/
def exec_bit_2_D (s : State) : Result :=
  bitOn .b2 (.reg .D) s

/-- `BIT 2,E` (R221). -/
def exec_bit_2_E (s : State) : Result :=
  bitOn .b2 (.reg .E) s

/-- `BIT 2,H` (R221). -/
def exec_bit_2_H (s : State) : Result :=
  bitOn .b2 (.reg .H) s

/-- `BIT 2,L` (R221). -/
def exec_bit_2_L (s : State) : Result :=
  bitOn .b2 (.reg .L) s

/-- `BIT 2,(HL)` (R221). -/
def exec_bit_2_mHL (s : State) : Result :=
  bitOn .b2 .atHL s

/-- `BIT 2,A` (R221). -/
def exec_bit_2_A (s : State) : Result :=
  bitOn .b2 (.reg .A) s

/-- `BIT 3,B` (R221). -/
def exec_bit_3_B (s : State) : Result :=
  bitOn .b3 (.reg .B) s

/-- `BIT 3,C` (R221). -/
def exec_bit_3_C (s : State) : Result :=
  bitOn .b3 (.reg .C) s

/-- `BIT 3,D` (R221). -/
def exec_bit_3_D (s : State) : Result :=
  bitOn .b3 (.reg .D) s

/-- `BIT 3,E` (R221). -/
def exec_bit_3_E (s : State) : Result :=
  bitOn .b3 (.reg .E) s

/-- `BIT 3,H` (R221). -/
def exec_bit_3_H (s : State) : Result :=
  bitOn .b3 (.reg .H) s

/-- `BIT 3,L` (R221). -/
def exec_bit_3_L (s : State) : Result :=
  bitOn .b3 (.reg .L) s

/-- `BIT 3,(HL)` (R221). -/
def exec_bit_3_mHL (s : State) : Result :=
  bitOn .b3 .atHL s

/-- `BIT 3,A` (R221). -/
def exec_bit_3_A (s : State) : Result :=
  bitOn .b3 (.reg .A) s

/-- `BIT 4,B` (R221). -/
def exec_bit_4_B (s : State) : Result :=
  bitOn .b4 (.reg .B) s

/-- `BIT 4,C` (R221). -/
def exec_bit_4_C (s : State) : Result :=
  bitOn .b4 (.reg .C) s

/-- `BIT 4,D` (R221). -/
def exec_bit_4_D (s : State) : Result :=
  bitOn .b4 (.reg .D) s

/-- `BIT 4,E` (R221). -/
def exec_bit_4_E (s : State) : Result :=
  bitOn .b4 (.reg .E) s

/-- `BIT 4,H` (R221). -/
def exec_bit_4_H (s : State) : Result :=
  bitOn .b4 (.reg .H) s

/-- `BIT 4,L` (R221). -/
def exec_bit_4_L (s : State) : Result :=
  bitOn .b4 (.reg .L) s

/-- `BIT 4,(HL)` (R221). -/
def exec_bit_4_mHL (s : State) : Result :=
  bitOn .b4 .atHL s

/-- `BIT 4,A` (R221). -/
def exec_bit_4_A (s : State) : Result :=
  bitOn .b4 (.reg .A) s

/-- `BIT 5,B` (R221). -/
def exec_bit_5_B (s : State) : Result :=
  bitOn .b5 (.reg .B) s

/-- `BIT 5,C` (R221). -/
def exec_bit_5_C (s : State) : Result :=
  bitOn .b5 (.reg .C) s

/-- `BIT 5,D` (R221). -/
def exec_bit_5_D (s : State) : Result :=
  bitOn .b5 (.reg .D) s

/-- `BIT 5,E` (R221). -/
def exec_bit_5_E (s : State) : Result :=
  bitOn .b5 (.reg .E) s

/-- `BIT 5,H` (R221). -/
def exec_bit_5_H (s : State) : Result :=
  bitOn .b5 (.reg .H) s

/-- `BIT 5,L` (R221). -/
def exec_bit_5_L (s : State) : Result :=
  bitOn .b5 (.reg .L) s

/-- `BIT 5,(HL)` (R221). -/
def exec_bit_5_mHL (s : State) : Result :=
  bitOn .b5 .atHL s

/-- `BIT 5,A` (R221). -/
def exec_bit_5_A (s : State) : Result :=
  bitOn .b5 (.reg .A) s

/-- `BIT 6,B` (R221). -/
def exec_bit_6_B (s : State) : Result :=
  bitOn .b6 (.reg .B) s

/-- `BIT 6,C` (R221). -/
def exec_bit_6_C (s : State) : Result :=
  bitOn .b6 (.reg .C) s

/-- `BIT 6,D` (R221). -/
def exec_bit_6_D (s : State) : Result :=
  bitOn .b6 (.reg .D) s

/-- `BIT 6,E` (R221). -/
def exec_bit_6_E (s : State) : Result :=
  bitOn .b6 (.reg .E) s

/-- `BIT 6,H` (R221). -/
def exec_bit_6_H (s : State) : Result :=
  bitOn .b6 (.reg .H) s

/-- `BIT 6,L` (R221). -/
def exec_bit_6_L (s : State) : Result :=
  bitOn .b6 (.reg .L) s

/-- `BIT 6,(HL)` (R221). -/
def exec_bit_6_mHL (s : State) : Result :=
  bitOn .b6 .atHL s

/-- `BIT 6,A` (R221). -/
def exec_bit_6_A (s : State) : Result :=
  bitOn .b6 (.reg .A) s

/-- `BIT 7,B` (R221). -/
def exec_bit_7_B (s : State) : Result :=
  bitOn .b7 (.reg .B) s

/-- `BIT 7,C` (R221). -/
def exec_bit_7_C (s : State) : Result :=
  bitOn .b7 (.reg .C) s

/-- `BIT 7,D` (R221). -/
def exec_bit_7_D (s : State) : Result :=
  bitOn .b7 (.reg .D) s

/-- `BIT 7,E` (R221). -/
def exec_bit_7_E (s : State) : Result :=
  bitOn .b7 (.reg .E) s

/-- `BIT 7,H` (R221). -/
def exec_bit_7_H (s : State) : Result :=
  bitOn .b7 (.reg .H) s

/-- `BIT 7,L` (R221). -/
def exec_bit_7_L (s : State) : Result :=
  bitOn .b7 (.reg .L) s

/-- `BIT 7,(HL)` (R221). -/
def exec_bit_7_mHL (s : State) : Result :=
  bitOn .b7 .atHL s

/-- `BIT 7,A` (R221). -/
def exec_bit_7_A (s : State) : Result :=
  bitOn .b7 (.reg .A) s

/-- `RES 0,B` (R222). -/
def exec_res_0_B (s : State) : Result :=
  resOn .b0 (.reg .B) s

/-- `RES 0,C` (R222). -/
def exec_res_0_C (s : State) : Result :=
  resOn .b0 (.reg .C) s

/-- `RES 0,D` (R222). -/
def exec_res_0_D (s : State) : Result :=
  resOn .b0 (.reg .D) s

/-- `RES 0,E` (R222). -/
def exec_res_0_E (s : State) : Result :=
  resOn .b0 (.reg .E) s

/-- `RES 0,H` (R222). -/
def exec_res_0_H (s : State) : Result :=
  resOn .b0 (.reg .H) s

/-- `RES 0,L` (R222). -/
def exec_res_0_L (s : State) : Result :=
  resOn .b0 (.reg .L) s

/-- `RES 0,(HL)` (R222). -/
def exec_res_0_mHL (s : State) : Result :=
  resOn .b0 .atHL s

/-- `RES 0,A` (R222). -/
def exec_res_0_A (s : State) : Result :=
  resOn .b0 (.reg .A) s

/-- `RES 1,B` (R222). -/
def exec_res_1_B (s : State) : Result :=
  resOn .b1 (.reg .B) s

/-- `RES 1,C` (R222). -/
def exec_res_1_C (s : State) : Result :=
  resOn .b1 (.reg .C) s

/-- `RES 1,D` (R222). -/
def exec_res_1_D (s : State) : Result :=
  resOn .b1 (.reg .D) s

/-- `RES 1,E` (R222). -/
def exec_res_1_E (s : State) : Result :=
  resOn .b1 (.reg .E) s

/-- `RES 1,H` (R222). -/
def exec_res_1_H (s : State) : Result :=
  resOn .b1 (.reg .H) s

/-- `RES 1,L` (R222). -/
def exec_res_1_L (s : State) : Result :=
  resOn .b1 (.reg .L) s

/-- `RES 1,(HL)` (R222). -/
def exec_res_1_mHL (s : State) : Result :=
  resOn .b1 .atHL s

/-- `RES 1,A` (R222). -/
def exec_res_1_A (s : State) : Result :=
  resOn .b1 (.reg .A) s

/-- `RES 2,B` (R222). -/
def exec_res_2_B (s : State) : Result :=
  resOn .b2 (.reg .B) s

/-- `RES 2,C` (R222). -/
def exec_res_2_C (s : State) : Result :=
  resOn .b2 (.reg .C) s

/-- `RES 2,D` (R222). -/
def exec_res_2_D (s : State) : Result :=
  resOn .b2 (.reg .D) s

/-- `RES 2,E` (R222). -/
def exec_res_2_E (s : State) : Result :=
  resOn .b2 (.reg .E) s

/-- `RES 2,H` (R222). -/
def exec_res_2_H (s : State) : Result :=
  resOn .b2 (.reg .H) s

/-- `RES 2,L` (R222). -/
def exec_res_2_L (s : State) : Result :=
  resOn .b2 (.reg .L) s

/-- `RES 2,(HL)` (R222). -/
def exec_res_2_mHL (s : State) : Result :=
  resOn .b2 .atHL s

/-- `RES 2,A` (R222). -/
def exec_res_2_A (s : State) : Result :=
  resOn .b2 (.reg .A) s

/-- `RES 3,B` (R222). -/
def exec_res_3_B (s : State) : Result :=
  resOn .b3 (.reg .B) s

/-- `RES 3,C` (R222). -/
def exec_res_3_C (s : State) : Result :=
  resOn .b3 (.reg .C) s

/-- `RES 3,D` (R222). -/
def exec_res_3_D (s : State) : Result :=
  resOn .b3 (.reg .D) s

/-- `RES 3,E` (R222). -/
def exec_res_3_E (s : State) : Result :=
  resOn .b3 (.reg .E) s

/-- `RES 3,H` (R222). -/
def exec_res_3_H (s : State) : Result :=
  resOn .b3 (.reg .H) s

/-- `RES 3,L` (R222). -/
def exec_res_3_L (s : State) : Result :=
  resOn .b3 (.reg .L) s

/-- `RES 3,(HL)` (R222). -/
def exec_res_3_mHL (s : State) : Result :=
  resOn .b3 .atHL s

/-- `RES 3,A` (R222). -/
def exec_res_3_A (s : State) : Result :=
  resOn .b3 (.reg .A) s

/-- `RES 4,B` (R222). -/
def exec_res_4_B (s : State) : Result :=
  resOn .b4 (.reg .B) s

/-- `RES 4,C` (R222). -/
def exec_res_4_C (s : State) : Result :=
  resOn .b4 (.reg .C) s

/-- `RES 4,D` (R222). -/
def exec_res_4_D (s : State) : Result :=
  resOn .b4 (.reg .D) s

/-- `RES 4,E` (R222). -/
def exec_res_4_E (s : State) : Result :=
  resOn .b4 (.reg .E) s

/-- `RES 4,H` (R222). -/
def exec_res_4_H (s : State) : Result :=
  resOn .b4 (.reg .H) s

/-- `RES 4,L` (R222). -/
def exec_res_4_L (s : State) : Result :=
  resOn .b4 (.reg .L) s

/-- `RES 4,(HL)` (R222). -/
def exec_res_4_mHL (s : State) : Result :=
  resOn .b4 .atHL s

/-- `RES 4,A` (R222). -/
def exec_res_4_A (s : State) : Result :=
  resOn .b4 (.reg .A) s

/-- `RES 5,B` (R222). -/
def exec_res_5_B (s : State) : Result :=
  resOn .b5 (.reg .B) s

/-- `RES 5,C` (R222). -/
def exec_res_5_C (s : State) : Result :=
  resOn .b5 (.reg .C) s

/-- `RES 5,D` (R222). -/
def exec_res_5_D (s : State) : Result :=
  resOn .b5 (.reg .D) s

/-- `RES 5,E` (R222). -/
def exec_res_5_E (s : State) : Result :=
  resOn .b5 (.reg .E) s

/-- `RES 5,H` (R222). -/
def exec_res_5_H (s : State) : Result :=
  resOn .b5 (.reg .H) s

/-- `RES 5,L` (R222). -/
def exec_res_5_L (s : State) : Result :=
  resOn .b5 (.reg .L) s

/-- `RES 5,(HL)` (R222). -/
def exec_res_5_mHL (s : State) : Result :=
  resOn .b5 .atHL s

/-- `RES 5,A` (R222). -/
def exec_res_5_A (s : State) : Result :=
  resOn .b5 (.reg .A) s

/-- `RES 6,B` (R222). -/
def exec_res_6_B (s : State) : Result :=
  resOn .b6 (.reg .B) s

/-- `RES 6,C` (R222). -/
def exec_res_6_C (s : State) : Result :=
  resOn .b6 (.reg .C) s

/-- `RES 6,D` (R222). -/
def exec_res_6_D (s : State) : Result :=
  resOn .b6 (.reg .D) s

/-- `RES 6,E` (R222). -/
def exec_res_6_E (s : State) : Result :=
  resOn .b6 (.reg .E) s

/-- `RES 6,H` (R222). -/
def exec_res_6_H (s : State) : Result :=
  resOn .b6 (.reg .H) s

/-- `RES 6,L` (R222). -/
def exec_res_6_L (s : State) : Result :=
  resOn .b6 (.reg .L) s

/-- `RES 6,(HL)` (R222). -/
def exec_res_6_mHL (s : State) : Result :=
  resOn .b6 .atHL s

/-- `RES 6,A` (R222). -/
def exec_res_6_A (s : State) : Result :=
  resOn .b6 (.reg .A) s

/-- `RES 7,B` (R222). -/
def exec_res_7_B (s : State) : Result :=
  resOn .b7 (.reg .B) s

/-- `RES 7,C` (R222). -/
def exec_res_7_C (s : State) : Result :=
  resOn .b7 (.reg .C) s

/-- `RES 7,D` (R222). -/
def exec_res_7_D (s : State) : Result :=
  resOn .b7 (.reg .D) s

/-- `RES 7,E` (R222). -/
def exec_res_7_E (s : State) : Result :=
  resOn .b7 (.reg .E) s

/-- `RES 7,H` (R222). -/
def exec_res_7_H (s : State) : Result :=
  resOn .b7 (.reg .H) s

/-- `RES 7,L` (R222). -/
def exec_res_7_L (s : State) : Result :=
  resOn .b7 (.reg .L) s

/-- `RES 7,(HL)` (R222). -/
def exec_res_7_mHL (s : State) : Result :=
  resOn .b7 .atHL s

/-- `RES 7,A` (R222). -/
def exec_res_7_A (s : State) : Result :=
  resOn .b7 (.reg .A) s

/-- `SET 0,B` (R223). -/
def exec_set_0_B (s : State) : Result :=
  setOn .b0 (.reg .B) s

/-- `SET 0,C` (R223). -/
def exec_set_0_C (s : State) : Result :=
  setOn .b0 (.reg .C) s

/-- `SET 0,D` (R223). -/
def exec_set_0_D (s : State) : Result :=
  setOn .b0 (.reg .D) s

/-- `SET 0,E` (R223). -/
def exec_set_0_E (s : State) : Result :=
  setOn .b0 (.reg .E) s

/-- `SET 0,H` (R223). -/
def exec_set_0_H (s : State) : Result :=
  setOn .b0 (.reg .H) s

/-- `SET 0,L` (R223). -/
def exec_set_0_L (s : State) : Result :=
  setOn .b0 (.reg .L) s

/-- `SET 0,(HL)` (R223). -/
def exec_set_0_mHL (s : State) : Result :=
  setOn .b0 .atHL s

/-- `SET 0,A` (R223). -/
def exec_set_0_A (s : State) : Result :=
  setOn .b0 (.reg .A) s

/-- `SET 1,B` (R223). -/
def exec_set_1_B (s : State) : Result :=
  setOn .b1 (.reg .B) s

/-- `SET 1,C` (R223). -/
def exec_set_1_C (s : State) : Result :=
  setOn .b1 (.reg .C) s

/-- `SET 1,D` (R223). -/
def exec_set_1_D (s : State) : Result :=
  setOn .b1 (.reg .D) s

/-- `SET 1,E` (R223). -/
def exec_set_1_E (s : State) : Result :=
  setOn .b1 (.reg .E) s

/-- `SET 1,H` (R223). -/
def exec_set_1_H (s : State) : Result :=
  setOn .b1 (.reg .H) s

/-- `SET 1,L` (R223). -/
def exec_set_1_L (s : State) : Result :=
  setOn .b1 (.reg .L) s

/-- `SET 1,(HL)` (R223). -/
def exec_set_1_mHL (s : State) : Result :=
  setOn .b1 .atHL s

/-- `SET 1,A` (R223). -/
def exec_set_1_A (s : State) : Result :=
  setOn .b1 (.reg .A) s

/-- `SET 2,B` (R223). -/
def exec_set_2_B (s : State) : Result :=
  setOn .b2 (.reg .B) s

/-- `SET 2,C` (R223). -/
def exec_set_2_C (s : State) : Result :=
  setOn .b2 (.reg .C) s

/-- `SET 2,D` (R223). -/
def exec_set_2_D (s : State) : Result :=
  setOn .b2 (.reg .D) s

/-- `SET 2,E` (R223). -/
def exec_set_2_E (s : State) : Result :=
  setOn .b2 (.reg .E) s

/-- `SET 2,H` (R223). -/
def exec_set_2_H (s : State) : Result :=
  setOn .b2 (.reg .H) s

/-- `SET 2,L` (R223). -/
def exec_set_2_L (s : State) : Result :=
  setOn .b2 (.reg .L) s

/-- `SET 2,(HL)` (R223). -/
def exec_set_2_mHL (s : State) : Result :=
  setOn .b2 .atHL s

/-- `SET 2,A` (R223). -/
def exec_set_2_A (s : State) : Result :=
  setOn .b2 (.reg .A) s

/-- `SET 3,B` (R223). -/
def exec_set_3_B (s : State) : Result :=
  setOn .b3 (.reg .B) s

/-- `SET 3,C` (R223). -/
def exec_set_3_C (s : State) : Result :=
  setOn .b3 (.reg .C) s

/-- `SET 3,D` (R223). -/
def exec_set_3_D (s : State) : Result :=
  setOn .b3 (.reg .D) s

/-- `SET 3,E` (R223). -/
def exec_set_3_E (s : State) : Result :=
  setOn .b3 (.reg .E) s

/-- `SET 3,H` (R223). -/
def exec_set_3_H (s : State) : Result :=
  setOn .b3 (.reg .H) s

/-- `SET 3,L` (R223). -/
def exec_set_3_L (s : State) : Result :=
  setOn .b3 (.reg .L) s

/-- `SET 3,(HL)` (R223). -/
def exec_set_3_mHL (s : State) : Result :=
  setOn .b3 .atHL s

/-- `SET 3,A` (R223). -/
def exec_set_3_A (s : State) : Result :=
  setOn .b3 (.reg .A) s

/-- `SET 4,B` (R223). -/
def exec_set_4_B (s : State) : Result :=
  setOn .b4 (.reg .B) s

/-- `SET 4,C` (R223). -/
def exec_set_4_C (s : State) : Result :=
  setOn .b4 (.reg .C) s

/-- `SET 4,D` (R223). -/
def exec_set_4_D (s : State) : Result :=
  setOn .b4 (.reg .D) s

/-- `SET 4,E` (R223). -/
def exec_set_4_E (s : State) : Result :=
  setOn .b4 (.reg .E) s

/-- `SET 4,H` (R223). -/
def exec_set_4_H (s : State) : Result :=
  setOn .b4 (.reg .H) s

/-- `SET 4,L` (R223). -/
def exec_set_4_L (s : State) : Result :=
  setOn .b4 (.reg .L) s

/-- `SET 4,(HL)` (R223). -/
def exec_set_4_mHL (s : State) : Result :=
  setOn .b4 .atHL s

/-- `SET 4,A` (R223). -/
def exec_set_4_A (s : State) : Result :=
  setOn .b4 (.reg .A) s

/-- `SET 5,B` (R223). -/
def exec_set_5_B (s : State) : Result :=
  setOn .b5 (.reg .B) s

/-- `SET 5,C` (R223). -/
def exec_set_5_C (s : State) : Result :=
  setOn .b5 (.reg .C) s

/-- `SET 5,D` (R223). -/
def exec_set_5_D (s : State) : Result :=
  setOn .b5 (.reg .D) s

/-- `SET 5,E` (R223). -/
def exec_set_5_E (s : State) : Result :=
  setOn .b5 (.reg .E) s

/-- `SET 5,H` (R223). -/
def exec_set_5_H (s : State) : Result :=
  setOn .b5 (.reg .H) s

/-- `SET 5,L` (R223). -/
def exec_set_5_L (s : State) : Result :=
  setOn .b5 (.reg .L) s

/-- `SET 5,(HL)` (R223). -/
def exec_set_5_mHL (s : State) : Result :=
  setOn .b5 .atHL s

/-- `SET 5,A` (R223). -/
def exec_set_5_A (s : State) : Result :=
  setOn .b5 (.reg .A) s

/-- `SET 6,B` (R223). -/
def exec_set_6_B (s : State) : Result :=
  setOn .b6 (.reg .B) s

/-- `SET 6,C` (R223). -/
def exec_set_6_C (s : State) : Result :=
  setOn .b6 (.reg .C) s

/-- `SET 6,D` (R223). -/
def exec_set_6_D (s : State) : Result :=
  setOn .b6 (.reg .D) s

/-- `SET 6,E` (R223). -/
def exec_set_6_E (s : State) : Result :=
  setOn .b6 (.reg .E) s

/-- `SET 6,H` (R223). -/
def exec_set_6_H (s : State) : Result :=
  setOn .b6 (.reg .H) s

/-- `SET 6,L` (R223). -/
def exec_set_6_L (s : State) : Result :=
  setOn .b6 (.reg .L) s

/-- `SET 6,(HL)` (R223). -/
def exec_set_6_mHL (s : State) : Result :=
  setOn .b6 .atHL s

/-- `SET 6,A` (R223). -/
def exec_set_6_A (s : State) : Result :=
  setOn .b6 (.reg .A) s

/-- `SET 7,B` (R223). -/
def exec_set_7_B (s : State) : Result :=
  setOn .b7 (.reg .B) s

/-- `SET 7,C` (R223). -/
def exec_set_7_C (s : State) : Result :=
  setOn .b7 (.reg .C) s

/-- `SET 7,D` (R223). -/
def exec_set_7_D (s : State) : Result :=
  setOn .b7 (.reg .D) s

/-- `SET 7,E` (R223). -/
def exec_set_7_E (s : State) : Result :=
  setOn .b7 (.reg .E) s

/-- `SET 7,H` (R223). -/
def exec_set_7_H (s : State) : Result :=
  setOn .b7 (.reg .H) s

/-- `SET 7,L` (R223). -/
def exec_set_7_L (s : State) : Result :=
  setOn .b7 (.reg .L) s

/-- `SET 7,(HL)` (R223). -/
def exec_set_7_mHL (s : State) : Result :=
  setOn .b7 .atHL s

/-- `SET 7,A` (R223). -/
def exec_set_7_A (s : State) : Result :=
  setOn .b7 (.reg .A) s

end Sys2Proof.Machine
end

