-- ==== Sys2Proof/Machine/System.lean ====
section
/-! DEFINITION. System instructions, the PREFIX row and the illegal opcodes (46_system R250 to R256). -/

namespace Sys2Proof.Machine

/-- The CB-prefixed instruction of a sub-opcode, by its fields x, y, z (30_encoding R78, R255). -/
def runCb (sub : Byte) (s : State) : Result :=
  let y := sub.toNat / 8 % 8
  let z := Loc8.ofIndex (sub.toNat % 8)
  match sub.toNat / 64 with
  | 0 => rotateOn (RotOp.ofIndex y) z s
  | 1 => bitOn (BitIdx.ofIndex y) z s
  | 2 => resOn (BitIdx.ofIndex y) z s
  | _ => setOn (BitIdx.ofIndex y) z s

/-- `NOP` (R250). -/
def exec_nop (s : State) : Result :=
  .next (s.advance 1)

/-- `STOP` (R252). The second byte is ignored; log 10. -/
def exec_stop (_ : Byte) (s : State) : Result :=
  match s.policy.stop with
  | .nop2 => .next (s.advance 2)
  | .refuse => .refused .stopOutsideSpec

/-- `HALT` (R251). PC stays at the HALT byte, C8. -/
def exec_halt (s : State) : Result :=
  .next (s.setHalted true)

/-- `PREFIX CB` (R255). The sub-opcode is the byte at pc + 1; log 7. -/
def exec_prefixCb (s : State) : Result :=
  runCb (s.memRead (s.pc + 1)) s

/-- `ILLEGAL_D3` (R256). -/
def exec_illegal_D3 (s : State) : Result :=
  illegalOn .xD3 s

/-- `ILLEGAL_DB` (R256). -/
def exec_illegal_DB (s : State) : Result :=
  illegalOn .xDB s

/-- `ILLEGAL_DD` (R256). -/
def exec_illegal_DD (s : State) : Result :=
  illegalOn .xDD s

/-- `ILLEGAL_E3` (R256). -/
def exec_illegal_E3 (s : State) : Result :=
  illegalOn .xE3 s

/-- `ILLEGAL_E4` (R256). -/
def exec_illegal_E4 (s : State) : Result :=
  illegalOn .xE4 s

/-- `ILLEGAL_EB` (R256). -/
def exec_illegal_EB (s : State) : Result :=
  illegalOn .xEB s

/-- `ILLEGAL_EC` (R256). -/
def exec_illegal_EC (s : State) : Result :=
  illegalOn .xEC s

/-- `ILLEGAL_ED` (R256). -/
def exec_illegal_ED (s : State) : Result :=
  illegalOn .xED s

/-- `DI` (R253). -/
def exec_di (s : State) : Result :=
  .next ((s.setIme .disabled).advance 1)

/-- `ILLEGAL_F4` (R256). -/
def exec_illegal_F4 (s : State) : Result :=
  illegalOn .xF4 s

/-- `EI` (R254). Only Disabled is scheduled. -/
def exec_ei (s : State) : Result :=
  .next ((s.setIme s.ime.afterEi).advance 1)

/-- `ILLEGAL_FC` (R256). -/
def exec_illegal_FC (s : State) : Result :=
  illegalOn .xFC s

/-- `ILLEGAL_FD` (R256). -/
def exec_illegal_FD (s : State) : Result :=
  illegalOn .xFD s

end Sys2Proof.Machine
end

