-- ==== Sys2Proof/Machine/Timer.lean ====
section
/-! DEFINITION. The timer (60_exceptions R271 to R273). Every access is raw (20_memory R53): the DIV mirror does
not clear `ctr`. -/

namespace Sys2Proof.Machine

/-- The number of steps per TIMA increment, by TAC[1:0] (10_state R26, R271). -/
def timerPeriod (tac : Byte) : Nat :=
  match (tac &&& 0x03).toNat with
  | 0 => 256
  | 1 => 4
  | 2 => 16
  | _ => 64

/-- The TIMA increment and overflow (R272). -/
def timaIncrement (s : State) : State :=
  if s.peek Addr.tima = 0xFF then
    (s.poke Addr.tima (s.peek Addr.tma)).poke Addr.ifReg (s.peek Addr.ifReg ||| 0x04)
  else s.poke Addr.tima (s.peek Addr.tima + 1)

/-- The first two lines of the tick: `ctr` counts and DIV mirrors its high byte (R271). -/
def countAndMirror (s : State) : State :=
  (s.setCtr (s.ctr + 1)).poke Addr.div (hiByte (s.ctr + 1))

/-- TIMA is due: TAC[2] is set and the counter is at a multiple of the period (R271). -/
def timaDue (s : State) : Bool :=
  (s.peek Addr.tac).getLsbD 2 && decide (s.ctr.toNat % timerPeriod (s.peek Addr.tac) = 0)

/-- Phase P5, the timer tick (R271): the test uses the new `ctr`. -/
def timerTick (s : State) : State :=
  let counted := countAndMirror s
  if timaDue counted then timaIncrement counted else counted

end Sys2Proof.Machine
end

