-- ==== Sys2Proof/Machine/Phases.lean ====
section
/-! DEFINITION. The phases of one step (60_exceptions R260). P4, the update of F from the flags, is the identity
(10_state R15; log 17). -/

namespace Sys2Proof.Machine

/-- Phase P1 (R262): one count of a scheduled enable. -/
def imeSchedule (s : State) : State := s.setIme s.ime.tick

/-- Phase P1b (R266): a halted core with a source pending and enabled wakes, past the HALT byte, whatever `ime`
is. -/
def haltWake (s : State) : State :=
  if s.halted && wakeCondition s then (s.setHalted false).advance 1 else s

/-- Phase P2 (R267): at most one dispatch, only while `ime` is Enabled. -/
def dispatchInterrupt (s : State) : Result :=
  match s.ime, pendingIrq s with
  | .enabled, some i => takeInterrupt i s
  | _, _ => .next s

/-- What a step does before its instruction: no event yet, then P1, P1b, P2 in that order. -/
def beforeInstruction (s : State) : Result :=
  dispatchInterrupt (haltWake (imeSchedule s.clearEvents))

/-- The instruction at PC: three bus reads, each address modulo 2^16 (20_memory R57, R60; 30_encoding R80). -/
def fetchInstr (s : State) : Instr :=
  decode3 (s.memRead s.pc) (s.memRead (s.pc + 1)) (s.memRead (s.pc + 2))

/-- Phase P3 (R260): one instruction, unless the core is halted. -/
def runInstruction (s : State) : Result :=
  if s.halted then .next s else exec (fetchInstr s) s

/-- Put three bytes in memory from an address on, raw (70_reset_and_hazards R306). -/
def placeBytes (a : Word) (b0 b1 b2 : Byte) (s : State) : State :=
  ((s.poke a b0).poke (a + 1) b1).poke (a + 2) b2

/-- A core that would not fetch in its next step is set running; any other state is left as it is (log 13). -/
def readyToFetch (s : State) : State :=
  if s.halted && !wakeCondition s then s.setHalted false else s

/-- The address that the next step of a running core fetches from: after a wake and a dispatch (log 13). -/
def fetchAddress (s : State) : Word :=
  match beforeInstruction s with
  | .next t => t.pc
  | .fault _ => s.pc
  | .refused _ => s.pc

end Sys2Proof.Machine
end

