-- ==== Sys2Proof/Machine/Step.lean ====
section
/-! DEFINITION. One step (60_exceptions R260), and the placing of an instruction where the next step fetches. -/

namespace Sys2Proof.Machine

/-- One call of `step()` (R260): P1, P1b, P2, then P3, then P5. P4 is the identity (R15). -/
def step (s : State) : Host.Outcome State Fault Refusal :=
  andThen (beforeInstruction s) fun t =>
  andThen (runInstruction t) fun u =>
  .next (timerTick u)

/-- The state with an instruction of the opcode table stored where the next step fetches (log 3, log 6, log 13):
it stands for the host's placing of a program (70_reset_and_hazards R306, R307). -/
def State.withFetchWord (s : State) (nbits w : Nat) : State :=
  let given := tableBytes nbits w
  let r := readyToFetch s
  placeBytes (fetchAddress r) (given.getD 0 0) (given.getD 1 0) (given.getD 2 0) r

end Sys2Proof.Machine
end

