-- ==== Sys2Proof/Machine/Effects.lean ====
section
/-! DEFINITION. What each instruction is allowed to change, by the spec's own tables: the addresses it stores to,
the registers, the flags (10_state R16) and whether it moves SP (R12). Claims about frames are stated in these;
no meaning uses them. -/

namespace Sys2Proof.Machine

/-- The bytes that a bus write to `a` may change: none in ROM and in the unusable region, both aliases in the
echo ranges, OAM beside the DMA register, else the byte itself (20_memory R44 to R52). -/
def touches (a x : Word) : Bool :=
  match regionOf a with
  | .rom => false
  | .workRam => x == a || x == a + 0x2000
  | .echoRam => x == a || x == a - 0x2000
  | .unusable => false
  | .joyp => x == a
  | .div => x == a
  | .tac => x == a
  | .dma => x == a || decide (0xFE00 ≤ x.toNat ∧ x.toNat ≤ 0xFE9F)
  | .plain => x == a

/-- The flags by name. -/
inductive FlagName where
  | Z | N | H | C
  deriving DecidableEq, Repr

/-- The value of a flag. -/
def Flags.get (f : Flags) : FlagName → Bool
  | .Z => f.z
  | .N => f.n
  | .H => f.h
  | .C => f.c

/-- The store of the CB instruction of a sub-opcode: the (HL) forms but BIT store at HL (R208, R221). -/
def cbStores (sub : Byte) (s : State) : List Word :=
  if sub.toNat % 8 = 6 ∧ sub.toNat / 64 ≠ 1 then [s.hl] else []

/-- The register the CB instruction of a sub-opcode writes: its operand, but for BIT (R208, R221). -/
def cbRegisters (sub : Byte) : List Reg8 :=
  if sub.toNat / 64 = 1 then []
  else match Loc8.ofIndex (sub.toNat % 8) with
    | .reg r => [r]
    | .atHL => []

/-- The flags the CB instruction of a sub-opcode writes (R16). -/
def cbFlags (sub : Byte) : List FlagName :=
  match sub.toNat / 64 with
  | 0 => [.Z, .N, .H, .C]
  | 1 => [.Z, .N, .H]
  | _ => []

end Sys2Proof.Machine

namespace Sys2Proof.Instr

open Sys2Proof.Machine

/-- The addresses an instruction stores to through the bus, in order, in the state it starts from. -/
def storeAddresses (i : Instr) (s : State) : List Word :=
  match i with
  | .nop | .ld_BC_d16 _ | .inc_BC | .inc_B | .dec_B | .ld_B_d8 _ | .rlca | .add_HL_BC | .ld_A_mBC | .dec_BC |
    .inc_C | .dec_C | .ld_C_d8 _ | .rrca | .stop _ | .ld_DE_d16 _ | .inc_DE | .inc_D | .dec_D | .ld_D_d8 _ |
    .rla | .jr_r8 _ | .add_HL_DE | .ld_A_mDE | .dec_DE | .inc_E | .dec_E | .ld_E_d8 _ | .rra | .jr_NZ_r8 _ |
    .ld_HL_d16 _ | .inc_HL | .inc_H | .dec_H | .ld_H_d8 _ | .daa | .jr_Z_r8 _ | .add_HL_HL | .ld_A_mHLi |
    .dec_HL | .inc_L | .dec_L | .ld_L_d8 _ | .cpl | .jr_NC_r8 _ | .ld_SP_d16 _ | .inc_SP | .scf | .jr_C_r8 _ |
    .add_HL_SP | .ld_A_mHLd | .dec_SP | .inc_A | .dec_A | .ld_A_d8 _ | .ccf | .ld_B_B | .ld_B_C | .ld_B_D |
    .ld_B_E | .ld_B_H | .ld_B_L | .ld_B_mHL | .ld_B_A | .ld_C_B | .ld_C_C | .ld_C_D | .ld_C_E | .ld_C_H |
    .ld_C_L | .ld_C_mHL | .ld_C_A | .ld_D_B | .ld_D_C | .ld_D_D | .ld_D_E | .ld_D_H | .ld_D_L | .ld_D_mHL |
    .ld_D_A | .ld_E_B | .ld_E_C | .ld_E_D | .ld_E_E | .ld_E_H | .ld_E_L | .ld_E_mHL | .ld_E_A | .ld_H_B |
    .ld_H_C | .ld_H_D | .ld_H_E | .ld_H_H | .ld_H_L | .ld_H_mHL | .ld_H_A | .ld_L_B | .ld_L_C | .ld_L_D |
    .ld_L_E | .ld_L_H | .ld_L_L | .ld_L_mHL | .ld_L_A | .halt | .ld_A_B | .ld_A_C | .ld_A_D | .ld_A_E |
    .ld_A_H | .ld_A_L | .ld_A_mHL | .ld_A_A | .add_A_B | .add_A_C | .add_A_D | .add_A_E | .add_A_H | .add_A_L |
    .add_A_mHL | .add_A_A | .adc_A_B | .adc_A_C | .adc_A_D | .adc_A_E | .adc_A_H | .adc_A_L | .adc_A_mHL |
    .adc_A_A | .sub_B | .sub_C | .sub_D | .sub_E | .sub_H | .sub_L | .sub_mHL | .sub_A | .sbc_A_B | .sbc_A_C |
    .sbc_A_D | .sbc_A_E | .sbc_A_H | .sbc_A_L | .sbc_A_mHL | .sbc_A_A | .and_B | .and_C | .and_D | .and_E |
    .and_H | .and_L | .and_mHL | .and_A | .xor_B | .xor_C | .xor_D | .xor_E | .xor_H | .xor_L | .xor_mHL |
    .xor_A | .or_B | .or_C | .or_D | .or_E | .or_H | .or_L | .or_mHL | .or_A | .cp_B | .cp_C | .cp_D | .cp_E |
    .cp_H | .cp_L | .cp_mHL | .cp_A | .ret_NZ | .pop_BC | .jp_NZ_a16 _ | .jp_a16 _ | .add_A_d8 _ | .ret_Z |
    .ret | .jp_Z_a16 _ | .adc_A_d8 _ | .ret_NC | .pop_DE | .jp_NC_a16 _ | .illegal_D3 | .sub_d8 _ | .ret_C |
    .reti | .jp_C_a16 _ | .illegal_DB | .illegal_DD | .sbc_A_d8 _ | .pop_HL | .illegal_E3 | .illegal_E4 |
    .and_d8 _ | .add_SP_r8 _ | .jp_mHL | .illegal_EB | .illegal_EC | .illegal_ED | .xor_d8 _ | .ldh_A_ma8 _ |
    .pop_AF | .ld_A_mC | .di | .illegal_F4 | .or_d8 _ | .ld_HL_SPr8 _ | .ld_SP_HL | .ld_A_ma16 _ | .ei |
    .illegal_FC | .illegal_FD | .cp_d8 _ | .rlc_B | .rlc_C | .rlc_D | .rlc_E | .rlc_H | .rlc_L | .rlc_A |
    .rrc_B | .rrc_C | .rrc_D | .rrc_E | .rrc_H | .rrc_L | .rrc_A | .rl_B | .rl_C | .rl_D | .rl_E | .rl_H |
    .rl_L | .rl_A | .rr_B | .rr_C | .rr_D | .rr_E | .rr_H | .rr_L | .rr_A | .sla_B | .sla_C | .sla_D | .sla_E |
    .sla_H | .sla_L | .sla_A | .sra_B | .sra_C | .sra_D | .sra_E | .sra_H | .sra_L | .sra_A | .swap_B |
    .swap_C | .swap_D | .swap_E | .swap_H | .swap_L | .swap_A | .srl_B | .srl_C | .srl_D | .srl_E | .srl_H |
    .srl_L | .srl_A | .bit_0_B | .bit_0_C | .bit_0_D | .bit_0_E | .bit_0_H | .bit_0_L | .bit_0_mHL | .bit_0_A |
    .bit_1_B | .bit_1_C | .bit_1_D | .bit_1_E | .bit_1_H | .bit_1_L | .bit_1_mHL | .bit_1_A | .bit_2_B |
    .bit_2_C | .bit_2_D | .bit_2_E | .bit_2_H | .bit_2_L | .bit_2_mHL | .bit_2_A | .bit_3_B | .bit_3_C |
    .bit_3_D | .bit_3_E | .bit_3_H | .bit_3_L | .bit_3_mHL | .bit_3_A | .bit_4_B | .bit_4_C | .bit_4_D |
    .bit_4_E | .bit_4_H | .bit_4_L | .bit_4_mHL | .bit_4_A | .bit_5_B | .bit_5_C | .bit_5_D | .bit_5_E |
    .bit_5_H | .bit_5_L | .bit_5_mHL | .bit_5_A | .bit_6_B | .bit_6_C | .bit_6_D | .bit_6_E | .bit_6_H |
    .bit_6_L | .bit_6_mHL | .bit_6_A | .bit_7_B | .bit_7_C | .bit_7_D | .bit_7_E | .bit_7_H | .bit_7_L |
    .bit_7_mHL | .bit_7_A | .res_0_B | .res_0_C | .res_0_D | .res_0_E | .res_0_H | .res_0_L | .res_0_A |
    .res_1_B | .res_1_C | .res_1_D | .res_1_E | .res_1_H | .res_1_L | .res_1_A | .res_2_B | .res_2_C |
    .res_2_D | .res_2_E | .res_2_H | .res_2_L | .res_2_A | .res_3_B | .res_3_C | .res_3_D | .res_3_E |
    .res_3_H | .res_3_L | .res_3_A | .res_4_B | .res_4_C | .res_4_D | .res_4_E | .res_4_H | .res_4_L |
    .res_4_A | .res_5_B | .res_5_C | .res_5_D | .res_5_E | .res_5_H | .res_5_L | .res_5_A | .res_6_B |
    .res_6_C | .res_6_D | .res_6_E | .res_6_H | .res_6_L | .res_6_A | .res_7_B | .res_7_C | .res_7_D |
    .res_7_E | .res_7_H | .res_7_L | .res_7_A | .set_0_B | .set_0_C | .set_0_D | .set_0_E | .set_0_H |
    .set_0_L | .set_0_A | .set_1_B | .set_1_C | .set_1_D | .set_1_E | .set_1_H | .set_1_L | .set_1_A |
    .set_2_B | .set_2_C | .set_2_D | .set_2_E | .set_2_H | .set_2_L | .set_2_A | .set_3_B | .set_3_C |
    .set_3_D | .set_3_E | .set_3_H | .set_3_L | .set_3_A | .set_4_B | .set_4_C | .set_4_D | .set_4_E |
    .set_4_H | .set_4_L | .set_4_A | .set_5_B | .set_5_C | .set_5_D | .set_5_E | .set_5_H | .set_5_L |
    .set_5_A | .set_6_B | .set_6_C | .set_6_D | .set_6_E | .set_6_H | .set_6_L | .set_6_A | .set_7_B |
    .set_7_C | .set_7_D | .set_7_E | .set_7_H | .set_7_L | .set_7_A => []
  | .ld_mBC_A => [s.bc]
  | .ld_ma16_SP a16 => [a16, a16 + 1]
  | .ld_mDE_A => [s.de]
  | .ld_mHLi_A | .ld_mHLd_A | .inc_mHL | .dec_mHL | .ld_mHL_d8 _ | .ld_mHL_B | .ld_mHL_C | .ld_mHL_D |
    .ld_mHL_E | .ld_mHL_H | .ld_mHL_L | .ld_mHL_A | .rlc_mHL | .rrc_mHL | .rl_mHL | .rr_mHL | .sla_mHL |
    .sra_mHL | .swap_mHL | .srl_mHL | .res_0_mHL | .res_1_mHL | .res_2_mHL | .res_3_mHL | .res_4_mHL |
    .res_5_mHL | .res_6_mHL | .res_7_mHL | .set_0_mHL | .set_1_mHL | .set_2_mHL | .set_3_mHL | .set_4_mHL |
    .set_5_mHL | .set_6_mHL | .set_7_mHL => [s.hl]
  | .call_NZ_a16 _ => if s.cond .NZ then [s.sp - 1, s.sp - 2] else []
  | .push_BC | .rst_00 | .call_a16 _ | .rst_08 | .push_DE | .rst_10 | .rst_18 | .push_HL | .rst_20 | .rst_28 |
    .push_AF | .rst_30 | .rst_38 => [s.sp - 1, s.sp - 2]
  | .prefixCb => cbStores (s.memRead (s.pc + 1)) s
  | .call_Z_a16 _ => if s.cond .Z then [s.sp - 1, s.sp - 2] else []
  | .call_NC_a16 _ => if s.cond .NC then [s.sp - 1, s.sp - 2] else []
  | .call_C_a16 _ => if s.cond .C then [s.sp - 1, s.sp - 2] else []
  | .ldh_ma8_A a8 => [ioPage a8]
  | .ld_mC_A => [ioPage s.c]
  | .ld_ma16_A a16 => [a16]

/-- The 8-bit registers an instruction may write: its destination, the halves of a destination pair, and HL where
the addressing mode moves it. -/
def registersWritten (i : Instr) (s : State) : List Reg8 :=
  match i with
  | .nop | .ld_mBC_A | .ld_ma16_SP _ | .stop _ | .ld_mDE_A | .jr_r8 _ | .jr_NZ_r8 _ | .jr_Z_r8 _ | .jr_NC_r8 _ |
    .ld_SP_d16 _ | .inc_SP | .inc_mHL | .dec_mHL | .ld_mHL_d8 _ | .scf | .jr_C_r8 _ | .dec_SP | .ccf |
    .ld_mHL_B | .ld_mHL_C | .ld_mHL_D | .ld_mHL_E | .ld_mHL_H | .ld_mHL_L | .halt | .ld_mHL_A | .cp_B | .cp_C |
    .cp_D | .cp_E | .cp_H | .cp_L | .cp_mHL | .cp_A | .ret_NZ | .jp_NZ_a16 _ | .jp_a16 _ | .call_NZ_a16 _ |
    .push_BC | .rst_00 | .ret_Z | .ret | .jp_Z_a16 _ | .call_Z_a16 _ | .call_a16 _ | .rst_08 | .ret_NC |
    .jp_NC_a16 _ | .illegal_D3 | .call_NC_a16 _ | .push_DE | .rst_10 | .ret_C | .reti | .jp_C_a16 _ |
    .illegal_DB | .call_C_a16 _ | .illegal_DD | .rst_18 | .ldh_ma8_A _ | .ld_mC_A | .illegal_E3 | .illegal_E4 |
    .push_HL | .rst_20 | .add_SP_r8 _ | .jp_mHL | .ld_ma16_A _ | .illegal_EB | .illegal_EC | .illegal_ED |
    .rst_28 | .di | .illegal_F4 | .push_AF | .rst_30 | .ld_SP_HL | .ei | .illegal_FC | .illegal_FD | .cp_d8 _ |
    .rst_38 | .rlc_mHL | .rrc_mHL | .rl_mHL | .rr_mHL | .sla_mHL | .sra_mHL | .swap_mHL | .srl_mHL | .bit_0_B |
    .bit_0_C | .bit_0_D | .bit_0_E | .bit_0_H | .bit_0_L | .bit_0_mHL | .bit_0_A | .bit_1_B | .bit_1_C |
    .bit_1_D | .bit_1_E | .bit_1_H | .bit_1_L | .bit_1_mHL | .bit_1_A | .bit_2_B | .bit_2_C | .bit_2_D |
    .bit_2_E | .bit_2_H | .bit_2_L | .bit_2_mHL | .bit_2_A | .bit_3_B | .bit_3_C | .bit_3_D | .bit_3_E |
    .bit_3_H | .bit_3_L | .bit_3_mHL | .bit_3_A | .bit_4_B | .bit_4_C | .bit_4_D | .bit_4_E | .bit_4_H |
    .bit_4_L | .bit_4_mHL | .bit_4_A | .bit_5_B | .bit_5_C | .bit_5_D | .bit_5_E | .bit_5_H | .bit_5_L |
    .bit_5_mHL | .bit_5_A | .bit_6_B | .bit_6_C | .bit_6_D | .bit_6_E | .bit_6_H | .bit_6_L | .bit_6_mHL |
    .bit_6_A | .bit_7_B | .bit_7_C | .bit_7_D | .bit_7_E | .bit_7_H | .bit_7_L | .bit_7_mHL | .bit_7_A |
    .res_0_mHL | .res_1_mHL | .res_2_mHL | .res_3_mHL | .res_4_mHL | .res_5_mHL | .res_6_mHL | .res_7_mHL |
    .set_0_mHL | .set_1_mHL | .set_2_mHL | .set_3_mHL | .set_4_mHL | .set_5_mHL | .set_6_mHL | .set_7_mHL => []
  | .ld_BC_d16 _ | .inc_BC | .dec_BC | .pop_BC => [.B, .C]
  | .inc_B | .dec_B | .ld_B_d8 _ | .ld_B_B | .ld_B_C | .ld_B_D | .ld_B_E | .ld_B_H | .ld_B_L | .ld_B_mHL |
    .ld_B_A | .rlc_B | .rrc_B | .rl_B | .rr_B | .sla_B | .sra_B | .swap_B | .srl_B | .res_0_B | .res_1_B |
    .res_2_B | .res_3_B | .res_4_B | .res_5_B | .res_6_B | .res_7_B | .set_0_B | .set_1_B | .set_2_B |
    .set_3_B | .set_4_B | .set_5_B | .set_6_B | .set_7_B => [.B]
  | .rlca | .ld_A_mBC | .rrca | .rla | .ld_A_mDE | .rra | .daa | .cpl | .inc_A | .dec_A | .ld_A_d8 _ | .ld_A_B |
    .ld_A_C | .ld_A_D | .ld_A_E | .ld_A_H | .ld_A_L | .ld_A_mHL | .ld_A_A | .add_A_B | .add_A_C | .add_A_D |
    .add_A_E | .add_A_H | .add_A_L | .add_A_mHL | .add_A_A | .adc_A_B | .adc_A_C | .adc_A_D | .adc_A_E |
    .adc_A_H | .adc_A_L | .adc_A_mHL | .adc_A_A | .sub_B | .sub_C | .sub_D | .sub_E | .sub_H | .sub_L |
    .sub_mHL | .sub_A | .sbc_A_B | .sbc_A_C | .sbc_A_D | .sbc_A_E | .sbc_A_H | .sbc_A_L | .sbc_A_mHL |
    .sbc_A_A | .and_B | .and_C | .and_D | .and_E | .and_H | .and_L | .and_mHL | .and_A | .xor_B | .xor_C |
    .xor_D | .xor_E | .xor_H | .xor_L | .xor_mHL | .xor_A | .or_B | .or_C | .or_D | .or_E | .or_H | .or_L |
    .or_mHL | .or_A | .add_A_d8 _ | .adc_A_d8 _ | .sub_d8 _ | .sbc_A_d8 _ | .and_d8 _ | .xor_d8 _ |
    .ldh_A_ma8 _ | .pop_AF | .ld_A_mC | .or_d8 _ | .ld_A_ma16 _ | .rlc_A | .rrc_A | .rl_A | .rr_A | .sla_A |
    .sra_A | .swap_A | .srl_A | .res_0_A | .res_1_A | .res_2_A | .res_3_A | .res_4_A | .res_5_A | .res_6_A |
    .res_7_A | .set_0_A | .set_1_A | .set_2_A | .set_3_A | .set_4_A | .set_5_A | .set_6_A | .set_7_A => [.A]
  | .add_HL_BC | .add_HL_DE | .ld_HL_d16 _ | .ld_mHLi_A | .inc_HL | .add_HL_HL | .dec_HL | .ld_mHLd_A |
    .add_HL_SP | .pop_HL | .ld_HL_SPr8 _ => [.H, .L]
  | .inc_C | .dec_C | .ld_C_d8 _ | .ld_C_B | .ld_C_C | .ld_C_D | .ld_C_E | .ld_C_H | .ld_C_L | .ld_C_mHL |
    .ld_C_A | .rlc_C | .rrc_C | .rl_C | .rr_C | .sla_C | .sra_C | .swap_C | .srl_C | .res_0_C | .res_1_C |
    .res_2_C | .res_3_C | .res_4_C | .res_5_C | .res_6_C | .res_7_C | .set_0_C | .set_1_C | .set_2_C |
    .set_3_C | .set_4_C | .set_5_C | .set_6_C | .set_7_C => [.C]
  | .ld_DE_d16 _ | .inc_DE | .dec_DE | .pop_DE => [.D, .E]
  | .inc_D | .dec_D | .ld_D_d8 _ | .ld_D_B | .ld_D_C | .ld_D_D | .ld_D_E | .ld_D_H | .ld_D_L | .ld_D_mHL |
    .ld_D_A | .rlc_D | .rrc_D | .rl_D | .rr_D | .sla_D | .sra_D | .swap_D | .srl_D | .res_0_D | .res_1_D |
    .res_2_D | .res_3_D | .res_4_D | .res_5_D | .res_6_D | .res_7_D | .set_0_D | .set_1_D | .set_2_D |
    .set_3_D | .set_4_D | .set_5_D | .set_6_D | .set_7_D => [.D]
  | .inc_E | .dec_E | .ld_E_d8 _ | .ld_E_B | .ld_E_C | .ld_E_D | .ld_E_E | .ld_E_H | .ld_E_L | .ld_E_mHL |
    .ld_E_A | .rlc_E | .rrc_E | .rl_E | .rr_E | .sla_E | .sra_E | .swap_E | .srl_E | .res_0_E | .res_1_E |
    .res_2_E | .res_3_E | .res_4_E | .res_5_E | .res_6_E | .res_7_E | .set_0_E | .set_1_E | .set_2_E |
    .set_3_E | .set_4_E | .set_5_E | .set_6_E | .set_7_E => [.E]
  | .inc_H | .dec_H | .ld_H_d8 _ | .ld_H_B | .ld_H_C | .ld_H_D | .ld_H_E | .ld_H_H | .ld_H_L | .ld_H_mHL |
    .ld_H_A | .rlc_H | .rrc_H | .rl_H | .rr_H | .sla_H | .sra_H | .swap_H | .srl_H | .res_0_H | .res_1_H |
    .res_2_H | .res_3_H | .res_4_H | .res_5_H | .res_6_H | .res_7_H | .set_0_H | .set_1_H | .set_2_H |
    .set_3_H | .set_4_H | .set_5_H | .set_6_H | .set_7_H => [.H]
  | .ld_A_mHLi | .ld_A_mHLd => [.A, .H, .L]
  | .inc_L | .dec_L | .ld_L_d8 _ | .ld_L_B | .ld_L_C | .ld_L_D | .ld_L_E | .ld_L_H | .ld_L_L | .ld_L_mHL |
    .ld_L_A | .rlc_L | .rrc_L | .rl_L | .rr_L | .sla_L | .sra_L | .swap_L | .srl_L | .res_0_L | .res_1_L |
    .res_2_L | .res_3_L | .res_4_L | .res_5_L | .res_6_L | .res_7_L | .set_0_L | .set_1_L | .set_2_L |
    .set_3_L | .set_4_L | .set_5_L | .set_6_L | .set_7_L => [.L]
  | .prefixCb => cbRegisters (s.memRead (s.pc + 1))

/-- The flags an instruction writes (the table of 10_state R16). -/
def flagsWritten (i : Instr) (s : State) : List FlagName :=
  match i with
  | .nop | .ld_BC_d16 _ | .ld_mBC_A | .inc_BC | .ld_B_d8 _ | .ld_ma16_SP _ | .ld_A_mBC | .dec_BC | .ld_C_d8 _ |
    .stop _ | .ld_DE_d16 _ | .ld_mDE_A | .inc_DE | .ld_D_d8 _ | .jr_r8 _ | .ld_A_mDE | .dec_DE | .ld_E_d8 _ |
    .jr_NZ_r8 _ | .ld_HL_d16 _ | .ld_mHLi_A | .inc_HL | .ld_H_d8 _ | .jr_Z_r8 _ | .ld_A_mHLi | .dec_HL |
    .ld_L_d8 _ | .jr_NC_r8 _ | .ld_SP_d16 _ | .ld_mHLd_A | .inc_SP | .ld_mHL_d8 _ | .jr_C_r8 _ | .ld_A_mHLd |
    .dec_SP | .ld_A_d8 _ | .ld_B_B | .ld_B_C | .ld_B_D | .ld_B_E | .ld_B_H | .ld_B_L | .ld_B_mHL | .ld_B_A |
    .ld_C_B | .ld_C_C | .ld_C_D | .ld_C_E | .ld_C_H | .ld_C_L | .ld_C_mHL | .ld_C_A | .ld_D_B | .ld_D_C |
    .ld_D_D | .ld_D_E | .ld_D_H | .ld_D_L | .ld_D_mHL | .ld_D_A | .ld_E_B | .ld_E_C | .ld_E_D | .ld_E_E |
    .ld_E_H | .ld_E_L | .ld_E_mHL | .ld_E_A | .ld_H_B | .ld_H_C | .ld_H_D | .ld_H_E | .ld_H_H | .ld_H_L |
    .ld_H_mHL | .ld_H_A | .ld_L_B | .ld_L_C | .ld_L_D | .ld_L_E | .ld_L_H | .ld_L_L | .ld_L_mHL | .ld_L_A |
    .ld_mHL_B | .ld_mHL_C | .ld_mHL_D | .ld_mHL_E | .ld_mHL_H | .ld_mHL_L | .halt | .ld_mHL_A | .ld_A_B |
    .ld_A_C | .ld_A_D | .ld_A_E | .ld_A_H | .ld_A_L | .ld_A_mHL | .ld_A_A | .ret_NZ | .pop_BC | .jp_NZ_a16 _ |
    .jp_a16 _ | .call_NZ_a16 _ | .push_BC | .rst_00 | .ret_Z | .ret | .jp_Z_a16 _ | .call_Z_a16 _ |
    .call_a16 _ | .rst_08 | .ret_NC | .pop_DE | .jp_NC_a16 _ | .illegal_D3 | .call_NC_a16 _ | .push_DE |
    .rst_10 | .ret_C | .reti | .jp_C_a16 _ | .illegal_DB | .call_C_a16 _ | .illegal_DD | .rst_18 |
    .ldh_ma8_A _ | .pop_HL | .ld_mC_A | .illegal_E3 | .illegal_E4 | .push_HL | .rst_20 | .jp_mHL |
    .ld_ma16_A _ | .illegal_EB | .illegal_EC | .illegal_ED | .rst_28 | .ldh_A_ma8 _ | .ld_A_mC | .di |
    .illegal_F4 | .push_AF | .rst_30 | .ld_SP_HL | .ld_A_ma16 _ | .ei | .illegal_FC | .illegal_FD | .rst_38 |
    .res_0_B | .res_0_C | .res_0_D | .res_0_E | .res_0_H | .res_0_L | .res_0_mHL | .res_0_A | .res_1_B |
    .res_1_C | .res_1_D | .res_1_E | .res_1_H | .res_1_L | .res_1_mHL | .res_1_A | .res_2_B | .res_2_C |
    .res_2_D | .res_2_E | .res_2_H | .res_2_L | .res_2_mHL | .res_2_A | .res_3_B | .res_3_C | .res_3_D |
    .res_3_E | .res_3_H | .res_3_L | .res_3_mHL | .res_3_A | .res_4_B | .res_4_C | .res_4_D | .res_4_E |
    .res_4_H | .res_4_L | .res_4_mHL | .res_4_A | .res_5_B | .res_5_C | .res_5_D | .res_5_E | .res_5_H |
    .res_5_L | .res_5_mHL | .res_5_A | .res_6_B | .res_6_C | .res_6_D | .res_6_E | .res_6_H | .res_6_L |
    .res_6_mHL | .res_6_A | .res_7_B | .res_7_C | .res_7_D | .res_7_E | .res_7_H | .res_7_L | .res_7_mHL |
    .res_7_A | .set_0_B | .set_0_C | .set_0_D | .set_0_E | .set_0_H | .set_0_L | .set_0_mHL | .set_0_A |
    .set_1_B | .set_1_C | .set_1_D | .set_1_E | .set_1_H | .set_1_L | .set_1_mHL | .set_1_A | .set_2_B |
    .set_2_C | .set_2_D | .set_2_E | .set_2_H | .set_2_L | .set_2_mHL | .set_2_A | .set_3_B | .set_3_C |
    .set_3_D | .set_3_E | .set_3_H | .set_3_L | .set_3_mHL | .set_3_A | .set_4_B | .set_4_C | .set_4_D |
    .set_4_E | .set_4_H | .set_4_L | .set_4_mHL | .set_4_A | .set_5_B | .set_5_C | .set_5_D | .set_5_E |
    .set_5_H | .set_5_L | .set_5_mHL | .set_5_A | .set_6_B | .set_6_C | .set_6_D | .set_6_E | .set_6_H |
    .set_6_L | .set_6_mHL | .set_6_A | .set_7_B | .set_7_C | .set_7_D | .set_7_E | .set_7_H | .set_7_L |
    .set_7_mHL | .set_7_A => []
  | .inc_B | .dec_B | .inc_C | .dec_C | .inc_D | .dec_D | .inc_E | .dec_E | .inc_H | .dec_H | .inc_L | .dec_L |
    .inc_mHL | .dec_mHL | .inc_A | .dec_A | .bit_0_B | .bit_0_C | .bit_0_D | .bit_0_E | .bit_0_H | .bit_0_L |
    .bit_0_mHL | .bit_0_A | .bit_1_B | .bit_1_C | .bit_1_D | .bit_1_E | .bit_1_H | .bit_1_L | .bit_1_mHL |
    .bit_1_A | .bit_2_B | .bit_2_C | .bit_2_D | .bit_2_E | .bit_2_H | .bit_2_L | .bit_2_mHL | .bit_2_A |
    .bit_3_B | .bit_3_C | .bit_3_D | .bit_3_E | .bit_3_H | .bit_3_L | .bit_3_mHL | .bit_3_A | .bit_4_B |
    .bit_4_C | .bit_4_D | .bit_4_E | .bit_4_H | .bit_4_L | .bit_4_mHL | .bit_4_A | .bit_5_B | .bit_5_C |
    .bit_5_D | .bit_5_E | .bit_5_H | .bit_5_L | .bit_5_mHL | .bit_5_A | .bit_6_B | .bit_6_C | .bit_6_D |
    .bit_6_E | .bit_6_H | .bit_6_L | .bit_6_mHL | .bit_6_A | .bit_7_B | .bit_7_C | .bit_7_D | .bit_7_E |
    .bit_7_H | .bit_7_L | .bit_7_mHL | .bit_7_A => [.Z, .N, .H]
  | .rlca | .rrca | .rla | .rra | .add_A_B | .add_A_C | .add_A_D | .add_A_E | .add_A_H | .add_A_L | .add_A_mHL |
    .add_A_A | .adc_A_B | .adc_A_C | .adc_A_D | .adc_A_E | .adc_A_H | .adc_A_L | .adc_A_mHL | .adc_A_A |
    .sub_B | .sub_C | .sub_D | .sub_E | .sub_H | .sub_L | .sub_mHL | .sub_A | .sbc_A_B | .sbc_A_C | .sbc_A_D |
    .sbc_A_E | .sbc_A_H | .sbc_A_L | .sbc_A_mHL | .sbc_A_A | .and_B | .and_C | .and_D | .and_E | .and_H |
    .and_L | .and_mHL | .and_A | .xor_B | .xor_C | .xor_D | .xor_E | .xor_H | .xor_L | .xor_mHL | .xor_A |
    .or_B | .or_C | .or_D | .or_E | .or_H | .or_L | .or_mHL | .or_A | .cp_B | .cp_C | .cp_D | .cp_E | .cp_H |
    .cp_L | .cp_mHL | .cp_A | .add_A_d8 _ | .adc_A_d8 _ | .sub_d8 _ | .sbc_A_d8 _ | .and_d8 _ | .add_SP_r8 _ |
    .xor_d8 _ | .pop_AF | .or_d8 _ | .ld_HL_SPr8 _ | .cp_d8 _ | .rlc_B | .rlc_C | .rlc_D | .rlc_E | .rlc_H |
    .rlc_L | .rlc_mHL | .rlc_A | .rrc_B | .rrc_C | .rrc_D | .rrc_E | .rrc_H | .rrc_L | .rrc_mHL | .rrc_A |
    .rl_B | .rl_C | .rl_D | .rl_E | .rl_H | .rl_L | .rl_mHL | .rl_A | .rr_B | .rr_C | .rr_D | .rr_E | .rr_H |
    .rr_L | .rr_mHL | .rr_A | .sla_B | .sla_C | .sla_D | .sla_E | .sla_H | .sla_L | .sla_mHL | .sla_A | .sra_B |
    .sra_C | .sra_D | .sra_E | .sra_H | .sra_L | .sra_mHL | .sra_A | .swap_B | .swap_C | .swap_D | .swap_E |
    .swap_H | .swap_L | .swap_mHL | .swap_A | .srl_B | .srl_C | .srl_D | .srl_E | .srl_H | .srl_L | .srl_mHL |
    .srl_A => [.Z, .N, .H, .C]
  | .add_HL_BC | .add_HL_DE | .add_HL_HL | .scf | .add_HL_SP | .ccf => [.N, .H, .C]
  | .daa => [.Z, .H, .C]
  | .cpl => [.N, .H]
  | .prefixCb => cbFlags (s.memRead (s.pc + 1))

/-- Whether an instruction moves SP (10_state R12). -/
def movesSp (i : Instr) (s : State) : Bool :=
  match i with
  | .nop | .ld_BC_d16 _ | .ld_mBC_A | .inc_BC | .inc_B | .dec_B | .ld_B_d8 _ | .rlca | .ld_ma16_SP _ |
    .add_HL_BC | .ld_A_mBC | .dec_BC | .inc_C | .dec_C | .ld_C_d8 _ | .rrca | .stop _ | .ld_DE_d16 _ |
    .ld_mDE_A | .inc_DE | .inc_D | .dec_D | .ld_D_d8 _ | .rla | .jr_r8 _ | .add_HL_DE | .ld_A_mDE | .dec_DE |
    .inc_E | .dec_E | .ld_E_d8 _ | .rra | .jr_NZ_r8 _ | .ld_HL_d16 _ | .ld_mHLi_A | .inc_HL | .inc_H | .dec_H |
    .ld_H_d8 _ | .daa | .jr_Z_r8 _ | .add_HL_HL | .ld_A_mHLi | .dec_HL | .inc_L | .dec_L | .ld_L_d8 _ | .cpl |
    .jr_NC_r8 _ | .ld_mHLd_A | .inc_mHL | .dec_mHL | .ld_mHL_d8 _ | .scf | .jr_C_r8 _ | .add_HL_SP |
    .ld_A_mHLd | .inc_A | .dec_A | .ld_A_d8 _ | .ccf | .ld_B_B | .ld_B_C | .ld_B_D | .ld_B_E | .ld_B_H |
    .ld_B_L | .ld_B_mHL | .ld_B_A | .ld_C_B | .ld_C_C | .ld_C_D | .ld_C_E | .ld_C_H | .ld_C_L | .ld_C_mHL |
    .ld_C_A | .ld_D_B | .ld_D_C | .ld_D_D | .ld_D_E | .ld_D_H | .ld_D_L | .ld_D_mHL | .ld_D_A | .ld_E_B |
    .ld_E_C | .ld_E_D | .ld_E_E | .ld_E_H | .ld_E_L | .ld_E_mHL | .ld_E_A | .ld_H_B | .ld_H_C | .ld_H_D |
    .ld_H_E | .ld_H_H | .ld_H_L | .ld_H_mHL | .ld_H_A | .ld_L_B | .ld_L_C | .ld_L_D | .ld_L_E | .ld_L_H |
    .ld_L_L | .ld_L_mHL | .ld_L_A | .ld_mHL_B | .ld_mHL_C | .ld_mHL_D | .ld_mHL_E | .ld_mHL_H | .ld_mHL_L |
    .halt | .ld_mHL_A | .ld_A_B | .ld_A_C | .ld_A_D | .ld_A_E | .ld_A_H | .ld_A_L | .ld_A_mHL | .ld_A_A |
    .add_A_B | .add_A_C | .add_A_D | .add_A_E | .add_A_H | .add_A_L | .add_A_mHL | .add_A_A | .adc_A_B |
    .adc_A_C | .adc_A_D | .adc_A_E | .adc_A_H | .adc_A_L | .adc_A_mHL | .adc_A_A | .sub_B | .sub_C | .sub_D |
    .sub_E | .sub_H | .sub_L | .sub_mHL | .sub_A | .sbc_A_B | .sbc_A_C | .sbc_A_D | .sbc_A_E | .sbc_A_H |
    .sbc_A_L | .sbc_A_mHL | .sbc_A_A | .and_B | .and_C | .and_D | .and_E | .and_H | .and_L | .and_mHL | .and_A |
    .xor_B | .xor_C | .xor_D | .xor_E | .xor_H | .xor_L | .xor_mHL | .xor_A | .or_B | .or_C | .or_D | .or_E |
    .or_H | .or_L | .or_mHL | .or_A | .cp_B | .cp_C | .cp_D | .cp_E | .cp_H | .cp_L | .cp_mHL | .cp_A |
    .jp_NZ_a16 _ | .jp_a16 _ | .add_A_d8 _ | .jp_Z_a16 _ | .prefixCb | .adc_A_d8 _ | .jp_NC_a16 _ |
    .illegal_D3 | .sub_d8 _ | .jp_C_a16 _ | .illegal_DB | .illegal_DD | .sbc_A_d8 _ | .ldh_ma8_A _ | .ld_mC_A |
    .illegal_E3 | .illegal_E4 | .and_d8 _ | .jp_mHL | .ld_ma16_A _ | .illegal_EB | .illegal_EC | .illegal_ED |
    .xor_d8 _ | .ldh_A_ma8 _ | .ld_A_mC | .di | .illegal_F4 | .or_d8 _ | .ld_HL_SPr8 _ | .ld_A_ma16 _ | .ei |
    .illegal_FC | .illegal_FD | .cp_d8 _ | .rlc_B | .rlc_C | .rlc_D | .rlc_E | .rlc_H | .rlc_L | .rlc_mHL |
    .rlc_A | .rrc_B | .rrc_C | .rrc_D | .rrc_E | .rrc_H | .rrc_L | .rrc_mHL | .rrc_A | .rl_B | .rl_C | .rl_D |
    .rl_E | .rl_H | .rl_L | .rl_mHL | .rl_A | .rr_B | .rr_C | .rr_D | .rr_E | .rr_H | .rr_L | .rr_mHL | .rr_A |
    .sla_B | .sla_C | .sla_D | .sla_E | .sla_H | .sla_L | .sla_mHL | .sla_A | .sra_B | .sra_C | .sra_D |
    .sra_E | .sra_H | .sra_L | .sra_mHL | .sra_A | .swap_B | .swap_C | .swap_D | .swap_E | .swap_H | .swap_L |
    .swap_mHL | .swap_A | .srl_B | .srl_C | .srl_D | .srl_E | .srl_H | .srl_L | .srl_mHL | .srl_A | .bit_0_B |
    .bit_0_C | .bit_0_D | .bit_0_E | .bit_0_H | .bit_0_L | .bit_0_mHL | .bit_0_A | .bit_1_B | .bit_1_C |
    .bit_1_D | .bit_1_E | .bit_1_H | .bit_1_L | .bit_1_mHL | .bit_1_A | .bit_2_B | .bit_2_C | .bit_2_D |
    .bit_2_E | .bit_2_H | .bit_2_L | .bit_2_mHL | .bit_2_A | .bit_3_B | .bit_3_C | .bit_3_D | .bit_3_E |
    .bit_3_H | .bit_3_L | .bit_3_mHL | .bit_3_A | .bit_4_B | .bit_4_C | .bit_4_D | .bit_4_E | .bit_4_H |
    .bit_4_L | .bit_4_mHL | .bit_4_A | .bit_5_B | .bit_5_C | .bit_5_D | .bit_5_E | .bit_5_H | .bit_5_L |
    .bit_5_mHL | .bit_5_A | .bit_6_B | .bit_6_C | .bit_6_D | .bit_6_E | .bit_6_H | .bit_6_L | .bit_6_mHL |
    .bit_6_A | .bit_7_B | .bit_7_C | .bit_7_D | .bit_7_E | .bit_7_H | .bit_7_L | .bit_7_mHL | .bit_7_A |
    .res_0_B | .res_0_C | .res_0_D | .res_0_E | .res_0_H | .res_0_L | .res_0_mHL | .res_0_A | .res_1_B |
    .res_1_C | .res_1_D | .res_1_E | .res_1_H | .res_1_L | .res_1_mHL | .res_1_A | .res_2_B | .res_2_C |
    .res_2_D | .res_2_E | .res_2_H | .res_2_L | .res_2_mHL | .res_2_A | .res_3_B | .res_3_C | .res_3_D |
    .res_3_E | .res_3_H | .res_3_L | .res_3_mHL | .res_3_A | .res_4_B | .res_4_C | .res_4_D | .res_4_E |
    .res_4_H | .res_4_L | .res_4_mHL | .res_4_A | .res_5_B | .res_5_C | .res_5_D | .res_5_E | .res_5_H |
    .res_5_L | .res_5_mHL | .res_5_A | .res_6_B | .res_6_C | .res_6_D | .res_6_E | .res_6_H | .res_6_L |
    .res_6_mHL | .res_6_A | .res_7_B | .res_7_C | .res_7_D | .res_7_E | .res_7_H | .res_7_L | .res_7_mHL |
    .res_7_A | .set_0_B | .set_0_C | .set_0_D | .set_0_E | .set_0_H | .set_0_L | .set_0_mHL | .set_0_A |
    .set_1_B | .set_1_C | .set_1_D | .set_1_E | .set_1_H | .set_1_L | .set_1_mHL | .set_1_A | .set_2_B |
    .set_2_C | .set_2_D | .set_2_E | .set_2_H | .set_2_L | .set_2_mHL | .set_2_A | .set_3_B | .set_3_C |
    .set_3_D | .set_3_E | .set_3_H | .set_3_L | .set_3_mHL | .set_3_A | .set_4_B | .set_4_C | .set_4_D |
    .set_4_E | .set_4_H | .set_4_L | .set_4_mHL | .set_4_A | .set_5_B | .set_5_C | .set_5_D | .set_5_E |
    .set_5_H | .set_5_L | .set_5_mHL | .set_5_A | .set_6_B | .set_6_C | .set_6_D | .set_6_E | .set_6_H |
    .set_6_L | .set_6_mHL | .set_6_A | .set_7_B | .set_7_C | .set_7_D | .set_7_E | .set_7_H | .set_7_L |
    .set_7_mHL | .set_7_A => false
  | .ld_SP_d16 _ | .inc_SP | .dec_SP | .pop_BC | .push_BC | .rst_00 | .ret | .call_a16 _ | .rst_08 | .pop_DE |
    .push_DE | .rst_10 | .reti | .rst_18 | .pop_HL | .push_HL | .rst_20 | .add_SP_r8 _ | .rst_28 | .pop_AF |
    .push_AF | .rst_30 | .ld_SP_HL | .rst_38 => true
  | .ret_NZ | .call_NZ_a16 _ => s.cond .NZ
  | .ret_Z | .call_Z_a16 _ => s.cond .Z
  | .ret_NC | .call_NC_a16 _ => s.cond .NC
  | .ret_C | .call_C_a16 _ => s.cond .C

end Sys2Proof.Instr
end

