-- ==== Sys2Proof/Machine/Outside.lean ====
section
/-! DEFINITION. What the host can do to the machine between two steps (70_reset_and_hazards R302, R306 to R309),
as functions on states (log 14). -/

namespace Sys2Proof.Machine

/-- The two values R4 permits for `RESET_PC`: 0x0100, the default, and 0x0000. -/
inductive ResetPc where
  | cartridge
  | bootRom
  deriving DecidableEq, Repr

/-- The entry point that `RESET_PC` names (R4, R300; log 18). -/
def ResetPc.address : ResetPc → Word
  | .cartridge => Config.resetPc
  | .bootRom => 0x0000

/-- The parameters of a reset (00_scope R4): `RESET_PC`, the bytes of `RESET_IO` that differ from the default,
and the policies. The image `ROM` is placed by `load`. -/
structure ResetParams where
  pc : ResetPc
  io : List (Word × Byte)
  policy : Policy
  deriving DecidableEq, Repr

/-- The defaults of R4 and R302. -/
def ResetParams.default : ResetParams := { pc := .cartridge, io := [], policy := Policy.default }

/-- `RESET_IO` has a say at this address: it is about 0x8000 to 0xFFFF, and R302 requires DIV to be zero whatever
`RESET_IO` is passed (log 21). -/
def inResetIo (a : Word) : Bool := decide (0x8000 ≤ a.toNat) && a != Addr.div

/-- The bytes R302 lists for convenience, for a host that wants the sound and LCD registers in their post-boot
state. -/
def ResetParams.postBootIo : List (Word × Byte) :=
  [(0xFF10, 0x80), (0xFF11, 0xBF), (0xFF12, 0xF3), (0xFF14, 0xBF), (0xFF16, 0x3F), (0xFF19, 0xBF), (0xFF1A, 0x7F),
    (0xFF1B, 0xFF), (0xFF1C, 0x9F), (0xFF1E, 0xBF)] ++
  [(0xFF20, 0xFF), (0xFF23, 0xBF), (0xFF24, 0x77), (0xFF25, 0xF3), (0xFF26, 0xF1), (0xFF40, 0x91), (0xFF47, 0xFC),
    (0xFF48, 0xFF), (0xFF49, 0xFF)]

/-- A write by the host: raw, any byte (R306). -/
def hostWrite (a : Word) (v : Byte) (s : State) : State := s.poke a v

/-- A read by the host: raw (R306). -/
def hostRead (a : Word) (s : State) : Byte := s.peek a

/-- The host writes listed, in order. -/
def hostWrites (cells : List (Word × Byte)) (s : State) : State :=
  cells.foldl (fun t cell => hostWrite cell.1 cell.2 t) s

/-- `initialize()` with its parameters (R300 to R302): `RESET_IO` is placed where it has a say, the later of two
cells at one address winning, so that DIV = ctr[15:8] = 0 and the bytes below 0x8000 are zero whatever is passed. -/
def resetWith (p : ResetParams) : State :=
  hostWrites (p.io.filter fun cell => inResetIo cell.1)
    { State.reset with pc := p.pc.address, policy := p.policy }

/-- The bytes of an image from address `at` on, raw (R307). -/
def placeImage : List Byte → Nat → Memory → Memory
  | [], _, m => m
  | v :: image, at', m => placeImage image (at' + 1) (m.write at' v)

/-- `load(bytes)` (R307): byte for byte from address 0, for an image of at most 0x8000 bytes; a longer one is
outside the model (D27; log 15). -/
def load (image : List Byte) (s : State) : Result :=
  if image.length ≤ Config.romBytes then .next (s.setMem (placeImage image 0 s.mem))
  else .refused .romImageTooLarge

/-- The state at the first step (R302): `initialize()`, then the image `ROM`. -/
def startWith (p : ResetParams) (image : List Byte) : Result := load image (resetWith p)

/-- The input collaborator rewrites JOYP[3:0], 0 = pressed (R22, R308). -/
def inputWrite (keys : Byte) (s : State) : State :=
  hostWrite Addr.joyp ((s.peek Addr.joyp &&& 0xF0) ||| (keys &&& 0x0F)) s

/-- A collaborator makes a source pending (R268, R308, R309). -/
def requestInterrupt (i : Irq) (s : State) : State :=
  hostWrite Addr.ifReg (s.peek Addr.ifReg ||| ((1 : Byte) <<< i.bit)) s

end Sys2Proof.Machine
end

