-- ==== Sys2Proof/Safety.lean ====
section
/-! DEFINITION. What claims about runs are stated in: the invariants of the machine, and runs that end where the
user's condition holds. -/

namespace Sys2Proof.Machine

/-- The policies under which the spec calls the step relation total (60_exceptions R281, R252). -/
def State.permissive (s : State) : Prop :=
  s.policy.illegalOpcode = .permissive ∧ s.policy.unusableWrite = .permissive ∧ s.policy.stop = .nop2

/-- A bus write to this address is no fault: the policy is permissive or the address is outside 0xFEA0 to 0xFEFF
(20_memory R47). -/
def State.mayStore (s : State) (a : Word) : Prop :=
  s.policy.unusableWrite = .permissive ∨ ¬ (0xFEA0 ≤ a.toNat ∧ a.toNat ≤ 0xFEFF)

/-- The echo property of 20_memory R46: work RAM and echo RAM agree. -/
def State.echoed (s : State) : Prop :=
  ∀ x : Word, 0xC000 ≤ x.toNat → x.toNat ≤ 0xDDFF → s.peek x = s.peek (x + 0x2000)

/-- DIV holds the high byte of the counter (10_state R23). -/
def State.divMirrors (s : State) : Prop := s.peek Addr.div = hiByte s.ctr

/-- A safe run of `k` steps: no fault and no refusal. -/
def safeRun (k : Nat) (s : State) : Prop := ∃ t, Sys2Proof.core.run k s = .next t

/-- Run until the user's `END_CONDITION` holds, for at most `fuel` steps (00_scope R4, R8, decision D23; log 16). -/
def runUntil (endCondition : State → Bool) : Nat → State → Result
  | 0, s => .next s
  | fuel + 1, s => if endCondition s then .next s else andThen (step s) (runUntil endCondition fuel)

end Sys2Proof.Machine
end

