-- ==== Sys2Proof/Certificates/Slice0/Obligations.lean ====
section
/-! DEFINITION. The statements for the provers, from the numbered rules of spec/. A clause that rests on what the spec
marks as its own (general knowledge, a decision D<n>) says so in its docstring. -/

open Sys2Proof Sys2Proof.Machine

/-- O1. For every well-formed instruction and every bytes after it, the decoder reads from its encoding that same
instruction, with every operand at every value, and leaves exactly the bytes after it. The opcode map is the
spec's own (general knowledge, D1; log 8). Rests on: 30_encoding.md section 1 (formats); 30_encoding.md section
3 (opcode maps); 30_encoding.md section 4 (decoding). -/
def Obligations.DecodeEncodeRoundTrip : Prop :=
  ∀ (i : Instr) (rest : List Byte), i.wellFormed = true → decode (encode i ++ rest) = .ok (i, rest)

/-- O2. The decoder is total on bytes: any three bytes decode to a well-formed instruction, the list decoder agrees
with it and leaves the bytes after the instruction, and encoding the instruction gives back the bytes it was
read from. So no two words share a meaning. The opcode map is the spec's own (D1; log 8). Rests on:
30_encoding.md section 3 (opcode maps); 30_encoding.md section 4 (decoding). -/
def Obligations.DecodedBytesReencode : Prop :=
  ∀ b0 b1 b2 : Byte,
    (decode3 b0 b1 b2).wellFormed = true ∧
    decode [b0, b1, b2] = .ok (decode3 b0 b1 b2, [b0, b1, b2].drop (decode3 b0 b1 b2).length) ∧
    encode (decode3 b0 b1 b2) = [b0, b1, b2].take (decode3 b0 b1 b2).length

/-- O3. The instruction read from any three bytes is 3 bytes long for the seventeen first bytes of the spec's list,
2 bytes long for the 26 of its second list and for 0xCB, and 1 byte long for every other. The length lists are
the spec's own (general knowledge, D1; log 8). Rests on: 30_encoding.md section 4 (decoding); 30_encoding.md
section 1 (formats). -/
def Obligations.FirstByteFixesLength : Prop :=
  ∀ b0 b1 b2 : Byte,
    (decode3 b0 b1 b2).length =
      if b0 ∈ ([0x01, 0x11, 0x21, 0x31, 0x08, 0xC2, 0xC3, 0xC4, 0xCA, 0xCC, 0xCD, 0xD2, 0xD4, 0xDA, 0xDC, 0xEA,
        0xFA] : List Byte) then 3
      else if b0 ∈ ([0x06, 0x0E, 0x16, 0x1E, 0x26, 0x2E, 0x36, 0x3E, 0x10, 0x18, 0x20, 0x28, 0x30, 0x38, 0xC6, 0xCE,
        0xD6, 0xDE, 0xE6, 0xEE, 0xF6, 0xFE, 0xE0, 0xF0, 0xE8, 0xF8, 0xCB] : List Byte) then 2
      else 1

/-- O4. 0xCB is the prefix (the second byte selects the instruction), 3E 05 is LD A,5, C6 03 is ADD A,3, 76 is HALT,
a zero byte is NOP, and the eleven values listed are illegal. Rests on: R75. -/
def Obligations.SourceOpcodesDecode : Prop :=
  (∀ sub b : Byte, decode3 0xCB sub b = cbInstr sub) ∧
  (∀ b : Byte, decode3 0x3E 0x05 b = .ld_A_d8 0x05) ∧
  (∀ b : Byte, decode3 0xC6 0x03 b = .add_A_d8 0x03) ∧
  (∀ b b' : Byte, decode3 0x76 b b' = .halt) ∧
  (∀ b b' : Byte, decode3 0x00 b b' = .nop) ∧
  (∀ b0 b b' : Byte,
    b0 ∈ ([0xD3, 0xDB, 0xDD, 0xE3, 0xE4, 0xEB, 0xEC, 0xED, 0xF4, 0xFC, 0xFD] : List Byte) →
      ∃ k : IllegalOp, k.opcode = b0 ∧ decode3 b0 b b' = .illegalRow k)

/-- O5. LD B,C is 41; LD BC,0x1234 is 01 34 12; LDH (0x46),A is E0 46; PUSH AF is F5; SUB (HL) is 96; ADD HL,SP is
39; BIT 7,H is CB 7C; SWAP A is CB 37; SET 1,E is CB CB; JR NZ,-4 is 20 FC; CALL C,0x1234 is DC 34 12; RST 38H
is FF; EI is FB. The encodings are the spec's own (D1; log 8). Rests on: 30_encoding.md section 3 (opcode maps);
40_load8.md; 41_load16_stack.md; 42_alu8.md; 43_alu16.md; 44_rotate_shift_bit.md; 45_control.md; 46_system.md. -/
def Obligations.WrittenWordsDecode : Prop :=
  decode [0x41] = .ok (.ld_B_C, []) ∧
  decode [0x01, 0x34, 0x12] = .ok (.ld_BC_d16 0x1234, []) ∧
  decode [0xE0, 0x46] = .ok (.ldh_ma8_A 0x46, []) ∧
  decode [0xF5] = .ok (.push_AF, []) ∧
  decode [0x96] = .ok (.sub_mHL, []) ∧
  decode [0x39] = .ok (.add_HL_SP, []) ∧
  decode [0xCB, 0x7C] = .ok (.bit_7_H, []) ∧
  decode [0xCB, 0x37] = .ok (.swap_A, []) ∧
  decode [0xCB, 0xCB] = .ok (.set_1_E, []) ∧
  decode [0x20, 0xFC] = .ok (.jr_NZ_r8 0xFC, []) ∧
  decode [0xDC, 0x34, 0x12] = .ok (.call_C_a16 0x1234, []) ∧
  decode [0xFF] = .ok (.rst_38, []) ∧
  decode [0xFB] = .ok (.ei, [])

/-- O6. The decoder reads one of the eleven illegal rows from three bytes exactly where the first byte is one of the
eleven values listed, and then the length is 1; every other first byte and every CB sub-opcode is a defined
instruction. Rests on: R79. -/
def Obligations.IllegalOpcodesAreTheEleven : Prop :=
  ∀ b0 b1 b2 : Byte,
    ((∃ k : IllegalOp, decode3 b0 b1 b2 = .illegalRow k) ↔
      b0 ∈ ([0xD3, 0xDB, 0xDD, 0xE3, 0xE4, 0xEB, 0xEC, 0xED, 0xF4, 0xFC, 0xFD] : List Byte)) ∧
    (b0 ∈ ([0xD3, 0xDB, 0xDD, 0xE3, 0xE4, 0xEB, 0xEC, 0xED, 0xF4, 0xFC, 0xFD] : List Byte) →
      (decode3 b0 b1 b2).length = 1)

/-- O7. With y and z below 8, sub-opcode 8y+z is the y-th of RLC RRC RL RR SLA SRA SWAP SRL on the z-th of B C D E H
L (HL) A, 0x40+8y+z is BIT y, 0x80+8y+z RES y and 0xC0+8y+z SET y on the same operand. The layout is the spec's
own (D1; log 8). Rests on: 30_encoding.md section 3 (CB-prefixed table); 44_rotate_shift_bit.md sections 3 and
4. -/
def Obligations.CbSubOpcodeRanges : Prop :=
  ∀ (y z : Fin 8) (b : Byte),
    let rot : RotOp := [RotOp.rlc, .rrc, .rl, .rr, .sla, .sra, .swap, .srl].getD y .rlc
    let bit : BitIdx := [BitIdx.b0, .b1, .b2, .b3, .b4, .b5, .b6, .b7].getD y .b0
    let x : Loc8 := [Loc8.reg .B, .reg .C, .reg .D, .reg .E, .reg .H, .reg .L, .atHL, .reg .A].getD z .atHL
    decode3 0xCB (BitVec.ofNat 8 (8 * y + z)) b = .rotLoc rot x ∧
    decode3 0xCB (BitVec.ofNat 8 (0x40 + 8 * y + z)) b = .bitLoc bit x ∧
    decode3 0xCB (BitVec.ofNat 8 (0x80 + 8 * y + z)) b = .resLoc bit x ∧
    decode3 0xCB (BitVec.ofNat 8 (0xC0 + 8 * y + z)) b = .setLoc bit x

/-- O8. After the phases before the instruction, a running core whose bytes at PC decode to i runs exec of i and
then one timer tick. In particular, where the core is running and no enabled interrupt can be dispatched, those
phases only count the EI delay and clear the event list (the events field is the model's choice, log 5). One
tick in every step is decision D35 (log 9, presumed). Rests on: 60_exceptions.md section 1 (the step);
30_encoding.md section 4 (decoding). -/
def Obligations.StepRunsTheDecodedInstruction : Prop :=
  (∀ (s t : State) (i : Instr) (rest : List Byte),
    beforeInstruction s = .next t → t.halted = false →
    decode [t.peek t.pc, t.peek (t.pc + 1), t.peek (t.pc + 2)] = .ok (i, rest) →
      step s = andThen (exec i t) fun u => .next (timerTick u)) ∧
  (∀ s : State, s.halted = false → (s.ime.tick ≠ .enabled ∨ ∀ j : Irq, j.active s = false) →
    beforeInstruction s = .next { s with ime := s.ime.tick, events := [] })

/-- O9. A halted core with no source pending and enabled stays halted: the step only counts the EI delay and ticks
the timer. With one, and ime neither Enabled nor about to become so, it wakes with PC past the HALT byte and the
step then runs the instruction there, dispatching nothing; the wake with ime Enabled, which dispatches, is O10.
The latch and the wake are the spec's decision D8, the tick of a halted step D35 (log 9, presumed); the events
field, emptied at the start of the step, is the model's choice (log 5). Rests on: 60_exceptions.md section 3
(HALT wake-up); 46_system.md (HALT); 60_exceptions.md section 7 (power states). -/
def Obligations.HaltedStepAndWake : Prop :=
  (∀ s : State, s.halted = true → wakeCondition s = false →
    step s = .next (timerTick { s with ime := s.ime.tick, events := [] })) ∧
  (∀ s : State, s.halted = true → wakeCondition s = true → s.ime.tick ≠ .enabled →
    let w : State := { s with halted := false, pc := s.pc + 1, ime := s.ime.tick, events := [] }
    step s = andThen (exec (decode3 (s.peek (s.pc + 1)) (s.peek (s.pc + 2)) (s.peek (s.pc + 3))) w)
      fun u => .next (timerTick u)) ∧
  (∀ s : State, wakeCondition s = true ↔ ∃ j : Irq, j.active s = true)

/-- O10. Where ime is or becomes Enabled and the policy lets both stack bytes be stored to, the active source of the
lowest bit is dispatched: its IF bit alone is cleared by a raw write, ime becomes Disabled, the PC (past the
HALT byte if the core was halted) is pushed high byte first through the bus, SP moves down by 2, and PC is
0x0040 + 8 times the bit; nothing else changes. The push through the bus policy is decision D17, the wake D8
(log 9, presumed); the policy field (log 4) and the events field, emptied at the start of the step, (log 5) are
the model's choices. Rests on: 60_exceptions.md section 4 (interrupts); 60_exceptions.md section 2;
60_exceptions.md section 3; 41_load16_stack.md (Push16). -/
def Obligations.DispatchEntersTheVector : Prop :=
  ∀ (s : State) (i : Irq),
    s.ime.tick = .enabled → i.active s = true → (∀ j : Irq, j.bit < i.bit → j.active s = false) →
    s.mayStore (s.sp - 1) → s.mayStore (s.sp - 2) →
    let back : Word := if s.halted then s.pc + 1 else s.pc
    let cleared : State :=
      { s with mem := s.mem.write 0xFF0F (s.peek 0xFF0F &&& ~~~((1 : Byte) <<< i.bit)),
               ime := .disabled, halted := false, pc := back, events := [] }
    beforeInstruction s = .next
      { busEffect (s.sp - 2) (back.extractLsb' 0 8) (busEffect (s.sp - 1) (back.extractLsb' 8 8) cleared) with
        sp := s.sp - 2, pc := BitVec.ofNat 16 (0x0040 + 8 * i.bit) }

/-- O11. Whatever state an interrupt is taken in, if the taking answers a next state then ime is Disabled there and
PC is the entry of the fixed table 0x40, 0x48, 0x50, 0x58, 0x60 for the source's bit, that is 0x0040 + 8 times
the bit. Rests on: R31; R265. -/
def Obligations.DispatchDisablesAndUsesTheVectorTable : Prop :=
  ∀ (i : Irq) (s t : State), takeInterrupt i s = .next t →
    t.ime = .disabled ∧ t.pc = ([0x40, 0x48, 0x50, 0x58, 0x60] : List Word).getD i.bit 0 ∧
    t.pc.toNat = 0x0040 + 8 * i.bit

/-- O12. Of all instructions only DI (to Disabled), EI (from Disabled to ScheduledEnable(2)) and RETI (to Enabled)
change ime; before the instruction ScheduledEnable counts down by one, and a dispatch (Enabled with an active
source) makes it Disabled; the timer leaves it alone. The count of 2 is decision D7 (log 9). Rests on:
60_exceptions.md section 2 (the interrupt master enable); 46_system.md (DI, EI); 45_control.md (RETI). -/
def Obligations.OnlyListedEventsChangeIme : Prop :=
  (∀ (i : Instr) (s t : State), exec i s = .next t →
    t.ime =
      if i = .di then .disabled
      else if i = .ei then (if s.ime = .disabled then .scheduled .two else s.ime)
      else if i = .reti then .enabled
      else s.ime) ∧
  (∀ s t : State, beforeInstruction s = .next t →
    let counted : Ime :=
      if s.ime = .scheduled .two then .scheduled .one
      else if s.ime = .scheduled .one then .enabled
      else s.ime
    t.ime = if counted = .enabled ∧ wakeCondition s = true then .disabled else counted) ∧
  (∀ s : State, (timerTick s).ime = s.ime)

/-- O13. From Disabled, a step that runs EI leaves ScheduledEnable(2). The next step dispatches nothing: its
instruction starts at the PC, SP and memory the EI step left, with ScheduledEnable(1). Unless that instruction
is DI or RETI, ScheduledEnable(1) is what it leaves, and the step after that starts with ime Enabled. The delay
of two counts is decision D7 (log 9); the events field, emptied at the start of the step, is the model's choice
(log 5). Rests on: 60_exceptions.md section 2; 46_system.md (EI); 70_reset_and_hazards.md section 3 (EI delay);
90_conflicts.md C1. -/
def Obligations.EiTakesEffectAfterOneInstruction : Prop :=
  ∀ s t u : State, s.ime = .disabled → s.halted = false →
    decode3 (s.peek s.pc) (s.peek (s.pc + 1)) (s.peek (s.pc + 2)) = .ei →
    step s = .next t → step t = .next u →
      t.ime = .scheduled .two ∧
      beforeInstruction t = .next { t with ime := .scheduled .one, events := [] } ∧
      (fetchInstr t ≠ .di → fetchInstr t ≠ .reti → u.ime = .scheduled .one ∧ u.ime.tick = .enabled)

/-- O14. A tick adds 1 to the counter and puts its high byte in DIV. TIMA is due where TAC bit 2 is set and the new
counter is a multiple of 256, 4, 16 or 64 by TAC[1:0]: then TIMA counts, or from 0xFF is loaded from TMA and IF
bit 2 is set. No other byte and no other state changes. The periods and their order are decisions D15 and D35,
the immediate reload D32 (log 9). Rests on: 60_exceptions.md section 5 (timer); 10_state.md section 6 (DIV,
TIMA, TMA, TAC). -/
def Obligations.TimerTickCountsAndOverflows : Prop :=
  ∀ s : State,
    let n : Word := s.ctr + 1
    let tac := s.peek 0xFF07
    let period : Nat := [256, 4, 16, 64].getD (tac.toNat % 4) 0
    let due : Bool := tac.getLsbD 2 && decide (n.toNat % period = 0)
    let overflow : Bool := due && decide (s.peek 0xFF05 = 0xFF)
    { timerTick s with mem := s.mem, ctr := s.ctr } = s ∧
    (timerTick s).ctr = n ∧
    ∀ a : Word, (timerTick s).peek a =
      if a = 0xFF04 then n.extractLsb' 8 8
      else if a = 0xFF05 ∧ due = true then (if overflow then s.peek 0xFF06 else s.peek 0xFF05 + 1)
      else if a = 0xFF0F ∧ overflow = true then s.peek 0xFF0F ||| 0x04
      else s.peek a

/-- O15. From any state, whatever byte DIV held and whatever the instruction stored, if a step answers a next state
then mem[0xFF04] there is the counter's high byte, and the counter is either the old one plus 1 or 1. It does
not say which of the two: that running an instruction clears the counter exactly where it stores to DIV is O26.
The counter's width and the tick in every step are decisions D15 and D35 (log 9). Rests on: 10_state.md section
6 (DIV); 60_exceptions.md section 5; 20_memory.md section 2 (DIV write). -/
def Obligations.DivMirrorsTheCounterAfterEveryStep : Prop :=
  ∀ s t : State, step s = .next t →
    t.peek 0xFF04 = t.ctr.extractLsb' 8 8 ∧ (t.ctr = s.ctr + 1 ∨ t.ctr = 1)

/-- O16. A = 01, F = B0, BC = 0013, DE = 00D8, HL = 014D, SP = FFFE, PC = 0100, ime Disabled, not halted, counter 0,
no event; every memory byte 0 but JOYP = CF; the memory is canonical, work RAM and echo RAM agree, DIV mirrors
the counter, the policies are the permissive defaults. The register and internal values and JOYP are decision
D18 (log 1, log 2); PC = 0x0100 is the default of a parameter, decision D28 (log 18, presumed); the permissive
policies are the defaults D9, D10, D11 (log 10, log 11), and that State holds them is the model's choice (log
4); so is the events field (log 5). Rests on: 70_reset_and_hazards.md section 1 (reset); 10_state.md;
00_scope.md section 4 (parameters); notes/assumptions/1.md; notes/assumptions/2.md; notes/assumptions/4.md;
notes/assumptions/5.md; notes/assumptions/18.md. -/
def Obligations.ResetStateAndItsInvariants : Prop :=
  State.reset.a = 0x01 ∧ State.reset.f = 0xB0 ∧ State.reset.bc = 0x0013 ∧ State.reset.de = 0x00D8 ∧
  State.reset.hl = 0x014D ∧ State.reset.sp = 0xFFFE ∧ State.reset.pc = 0x0100 ∧
  State.reset.ime = .disabled ∧ State.reset.halted = false ∧ State.reset.ctr = 0 ∧ State.reset.events = [] ∧
  (∀ a : Word, State.reset.peek a = if a = 0xFF00 then 0xCF else 0x00) ∧
  State.reset.mem.wf = true ∧ State.reset.echoed ∧ State.reset.divMirrors ∧ State.reset.permissive

/-- O17. If the memory of a state is canonical (addresses strictly rising within the 64 KiB, no entry equal to what
an unlisted address reads as) and a step answers a next state, its memory is canonical. Rests on: 10_state.md
section 4 (memory); 20_memory.md section 2 (the bus); 60_exceptions.md section 1. -/
def Obligations.StepKeepsMemoryCanonical : Prop :=
  ∀ s t : State, s.mem.wf = true → step s = .next t → t.mem.wf = true

/-- O18. If mem[x] = mem[x + 0x2000] for every x in 0xC000 to 0xDDFF and a step answers a next state, the same holds
there: no instruction, dispatch, DMA copy or timer tick breaks the mirror. Rests on: 20_memory.md section 2
(echo RAM); 60_exceptions.md section 1. -/
def Obligations.StepKeepsEchoRam : Prop :=
  ∀ s t : State, s.echoed → step s = .next t → t.echoed

/-- O19. From any state, if a step answers a next state, every byte of ROM and every byte of the unusable region
reads as before, whatever instruction ran and whatever was dispatched. Rests on: 20_memory.md section 2 (the
bus); 20_memory.md section 4; 46_system.md; 60_exceptions.md section 1. -/
def Obligations.StepNeverChangesRomOrTheUnusableRegion : Prop :=
  ∀ s t : State, step s = .next t →
    ∀ a : Word, (a.toNat < 0x8000 ∨ (0xFEA0 ≤ a.toNat ∧ a.toNat ≤ 0xFEFF)) → t.peek a = s.peek a

/-- O20. From any state, if a step answers a next state, JOYP keeps its bits 7, 6 and 3 to 0 and TAC its bits 7 to
3: a program can write only the select lines and the three timer control bits. The policies stay as they are.
Keeping JOYP 7:6 and TAC 7:3 are decisions D12 and D13 (log 9); the policy field is the model's (log 4). Rests
on: 20_memory.md section 2 (JOYP, TAC); 10_state.md section 6. -/
def Obligations.StepKeepsTheFixedBitsOfJoypAndTac : Prop :=
  ∀ s t : State, step s = .next t →
    t.peek 0xFF00 &&& 0xCF = s.peek 0xFF00 &&& 0xCF ∧
    t.peek 0xFF07 &&& 0xF8 = s.peek 0xFF07 &&& 0xF8 ∧
    t.policy = s.policy

/-- O21. With both policies permissive and STOP a no-op (the spec's defaults, D9 to D11), a step of any state at all
answers a next state: the instruction stream never halts the machine. Rests on: 60_exceptions.md section 6
(exceptions, diagnostics and faults); 93_implementation_defined.md section 1; notes/assumptions/4.md. -/
def Obligations.PermissiveStepIsTotal : Prop :=
  ∀ s : State, s.permissive → ∃ t : State, step s = .next t ∧ t.permissive

/-- O22. If a step faults, it is an illegal opcode under the strict illegal-opcode policy, with its opcode one of
the eleven, or a write into 0xFEA0 to 0xFEFF under the strict unusable-write policy; if it is refused, it is
STOP under the refuse policy. The strict readings are decisions D11 and D29 (log 11, presumed); that STOP is
refused under refuse is decision D9 (log 10, presumed); that the policies are read from a field of State is the
model's choice (log 4). Rests on: 60_exceptions.md section 6; 20_memory.md section 2 (unusable region);
46_system.md (illegal opcodes, STOP). -/
def Obligations.StopsOnlyUnderAStrictPolicy : Prop :=
  ∀ s : State,
    (∀ f : Fault, step s = .fault f →
      (∃ (k : IllegalOp) (a : Word), f = .illegalOpcode k.opcode a ∧ s.policy.illegalOpcode = .strict) ∨
      (∃ (a : Word) (v : Byte), f = .unusableWrite a v ∧ s.policy.unusableWrite = .strict ∧
        0xFEA0 ≤ a.toNat ∧ a.toNat ≤ 0xFEFF)) ∧
    (∀ r : Refusal, step s = .refused r → r = .stopOutsideSpec ∧ s.policy.stop = .refuse)

/-- O23. For every instruction, if exec answers a next state, every byte not touched by a bus write to one of its
store addresses (HL, BC, DE, a16, 0xFF00+a8, 0xFF00+C, or SP-1 and SP-2, by its form, in the state it starts
from) reads as before; a form that stores nothing leaves all of memory as it was. Rests on: 20_memory.md section
2 (the bus); 40_load8.md; 41_load16_stack.md; 42_alu8.md section 5; 44_rotate_shift_bit.md; 45_control.md. -/
def Obligations.ExecChangesOnlyTheBytesItStoresTo : Prop :=
  ∀ (i : Instr) (s t : State), exec i s = .next t →
    ∀ x : Word, (∀ a ∈ i.storeAddresses s, touches a x = false) → t.peek x = s.peek x

/-- O24. For every instruction, if exec answers a next state, every 8-bit register outside its destinations (and HL
where the mode moves it) is unchanged, and SP is unchanged unless the instruction loads, adds to, pushes, pops,
calls or returns. Rests on: 10_state.md sections 1 and 2; 40_load8.md; 41_load16_stack.md; 42_alu8.md;
43_alu16.md; 44_rotate_shift_bit.md; 45_control.md. -/
def Obligations.ExecChangesOnlyItsRegisters : Prop :=
  ∀ (i : Instr) (s t : State), exec i s = .next t →
    (∀ r : Reg8, r ∉ i.registersWritten s → t.reg r = s.reg r) ∧
    (i.movesSp s = false → t.sp = s.sp)

/-- O25. For every instruction, if exec answers a next state, every flag that the table of flag effects does not
give the instruction is unchanged. Rows the table marks GK are the spec's own (general knowledge, D2; log 9).
Rests on: 10_state.md section 3 (table of flag effects); 42_alu8.md; 43_alu16.md; 44_rotate_shift_bit.md;
45_control.md. -/
def Obligations.ExecChangesOnlyTheFlagsOfTheTable : Prop :=
  ∀ (i : Instr) (s t : State), exec i s = .next t →
    ∀ f : FlagName, f ∉ i.flagsWritten s → t.flags.get f = s.flags.get f

/-- O26. For every instruction, if exec answers a next state: halted changes only for HALT; the counter is
unchanged, or 0 where a store address is DIV; the policies are unchanged; and no event is reported unless the
instruction is illegal or stores into 0xFEA0 to 0xFEFF. That HALT sets a latch is decision D8, and the two kinds
of event are D36 (log 9, presumed); the policy field (log 4) and the event field (log 5) are the model's
choices. Rests on: 10_state.md section 5; 46_system.md (HALT, illegal opcodes); 20_memory.md section 2;
60_exceptions.md section 6. -/
def Obligations.ExecControlStateFrame : Prop :=
  ∀ (i : Instr) (s t : State), exec i s = .next t →
    t.halted = (s.halted || decide (i = .halt)) ∧
    t.ctr = (if 0xFF04 ∈ i.storeAddresses s then 0 else s.ctr) ∧
    t.policy = s.policy ∧
    ((∀ k : IllegalOp, i ≠ .illegalRow k) →
      (∀ a ∈ i.storeAddresses s, ¬ (0xFEA0 ≤ a.toNat ∧ a.toNat ≤ 0xFEFF)) → t.events = s.events)

/-- O27. For all 512 constructors, in every state with every operand: if each of its store addresses may be stored
to (the policy is permissive or the address is outside 0xFEA0 to 0xFEFF), the illegal-opcode policy is
permissive or the instruction is not illegal, and STOP is a no-op or the instruction is not STOP, then exec
answers a next state. That the PREFIX CB row is among them is the model's choice (log 7; R255 calls it no
instruction); STOP completing under nop2 is decision D9 (log 10, presumed); the opcode rows are D1 (log 8,
presumed), the policies D10 and D11 (log 11, presumed), held in a field that is the model's choice (log 4).
Rests on: 60_exceptions.md section 6; 46_system.md; notes/assumptions/7.md; notes/assumptions/10.md;
20_memory.md section 2; 40_load8.md; 41_load16_stack.md; 42_alu8.md; 43_alu16.md; 44_rotate_shift_bit.md;
45_control.md. -/
def Obligations.EveryInstructionCompletes : Prop :=
  ∀ (i : Instr) (s : State),
    (∀ a ∈ i.storeAddresses s, s.mayStore a) →
    (s.policy.illegalOpcode = .permissive ∨ ∀ k : IllegalOp, i ≠ .illegalRow k) →
    (s.policy.stop = .nop2 ∨ ∀ pad : Byte, i ≠ .stop pad) →
      ∃ t : State, exec i s = .next t

/-- O28. For every destination and source register, LD r,r' completes with the source byte in the destination and PC
+ 1; LD r,d8 with the immediate and PC + 2; LD r,(HL) with the byte at the old HL and PC + 1; everything else is
unchanged. Opcodes are the spec's own (D1; log 8). Covers the 49 register loads, the 7 immediate loads and the 7
(HL) loads. Rests on: 40_load8.md (register, immediate and (HL) loads). -/
def Obligations.LoadsIntoARegister : Prop :=
  ∀ (d r : Reg8) (v : Byte) (s : State),
    exec (.ldRegReg d r) s = .next { s.setReg d (s.reg r) with pc := s.pc + 1 } ∧
    exec (.ldRegImm d v) s = .next { s.setReg d v with pc := s.pc + 2 } ∧
    exec (.ldRegHL d) s = .next { s.setReg d (s.peek (s.h ++ s.l)) with pc := s.pc + 1 }

/-- O29. Each completes with A holding the byte at its address, BC, DE, a16, 0xFF00 + a8, 0xFF00 + C or HL, and PC
past its length; (HL+) and (HL-) also move HL by one after the read; nothing else changes. The forms are the
spec's own (D1, D2, D34; log 8, log 9). Rests on: 40_load8.md (loads of A). -/
def Obligations.LoadsOfAFromMemory : Prop :=
  ∀ (a8 : Byte) (a16 : Word) (s : State),
    exec .ld_A_mBC s = .next { s with a := s.peek (s.b ++ s.c), pc := s.pc + 1 } ∧
    exec .ld_A_mDE s = .next { s with a := s.peek (s.d ++ s.e), pc := s.pc + 1 } ∧
    exec (.ld_A_ma16 a16) s = .next { s with a := s.peek a16, pc := s.pc + 3 } ∧
    exec (.ldh_A_ma8 a8) s = .next { s with a := s.peek (0xFF#8 ++ a8), pc := s.pc + 2 } ∧
    exec .ld_A_mC s = .next { s with a := s.peek (0xFF#8 ++ s.c), pc := s.pc + 1 } ∧
    exec .ld_A_mHLi s = .next { (s.setHl (s.hl + 1)) with a := s.peek (s.h ++ s.l), pc := s.pc + 1 } ∧
    exec .ld_A_mHLd s = .next { (s.setHl (s.hl - 1)) with a := s.peek (s.h ++ s.l), pc := s.pc + 1 }

/-- O30. A bus write answers its effect wherever the address may be stored to. LD (HL),r, LD (HL),d8, LD (BC),A, LD
(DE),A, LD (a16),A, LDH (a8),A, LD (C),A, LD (HL+),A and LD (HL-),A complete, wherever the address may be stored
to, with the effect of one bus write of the byte at the address and PC past the length; the last two also move
HL by one, the store using the old HL. LDH and LD (C),A never meet the unusable region and complete always. The
forms are the spec's own (D1, D2, D34; log 8, log 9). Rests on: 40_load8.md (stores); 20_memory.md section 2. -/
def Obligations.StoresOfAByte : Prop :=
  (∀ (a : Word) (v : Byte) (s : State), s.mayStore a → busWrite a v s = .next (busEffect a v s)) ∧
  (∀ (r : Reg8) (v : Byte) (s : State), s.mayStore s.hl →
    exec (.ldHLReg r) s = .next { busEffect s.hl (s.reg r) s with pc := s.pc + 1 } ∧
    exec (.ld_mHL_d8 v) s = .next { busEffect s.hl v s with pc := s.pc + 2 } ∧
    exec .ld_mHLi_A s = .next { (busEffect s.hl s.a s).setHl (s.hl + 1) with pc := s.pc + 1 } ∧
    exec .ld_mHLd_A s = .next { (busEffect s.hl s.a s).setHl (s.hl - 1) with pc := s.pc + 1 }) ∧
  (∀ s : State, s.mayStore s.bc → exec .ld_mBC_A s = .next { busEffect s.bc s.a s with pc := s.pc + 1 }) ∧
  (∀ s : State, s.mayStore s.de → exec .ld_mDE_A s = .next { busEffect s.de s.a s with pc := s.pc + 1 }) ∧
  (∀ (a16 : Word) (s : State), s.mayStore a16 →
    exec (.ld_ma16_A a16) s = .next { busEffect a16 s.a s with pc := s.pc + 3 }) ∧
  (∀ (a8 : Byte) (s : State),
    exec (.ldh_ma8_A a8) s = .next { busEffect (0xFF#8 ++ a8) s.a s with pc := s.pc + 2 } ∧
    exec .ld_mC_A s = .next { busEffect (0xFF#8 ++ s.c) s.a s with pc := s.pc + 1 })

/-- O31. Each completes with the pair, or SP, holding the immediate, HL, the old value plus 1 or minus 1 modulo
2^16, PC past its length, and nothing else changed, no flag among it. Opcodes and the absence of flags are the
spec's own (D1, D2; log 8, log 9). The pair LD BC,d16 puts the high byte in B. Rests on: 41_load16_stack.md (LD
rr,d16, LD SP,HL); 43_alu16.md (INC rr, DEC rr). -/
def Obligations.SixteenBitLoadsAndPairArithmetic : Prop :=
  ∀ (p : Pair) (v : Word) (s : State),
    exec (.ldPairImm p v) s = .next { s.setPair p v with pc := s.pc + 3 } ∧
    exec .ld_SP_HL s = .next { s with sp := s.h ++ s.l, pc := s.pc + 1 } ∧
    exec (.incPair p) s = .next { s.setPair p (s.pair p + 1) with pc := s.pc + 1 } ∧
    exec (.decPair p) s = .next { s.setPair p (s.pair p - 1) with pc := s.pc + 1 } ∧
    s.setPair .BC v = { s with b := v.extractLsb' 8 8, c := v.extractLsb' 0 8 } ∧
    s.setPair .DE v = { s with d := v.extractLsb' 8 8, e := v.extractLsb' 0 8 } ∧
    s.setPair .HL v = { s with h := v.extractLsb' 8 8, l := v.extractLsb' 0 8 } ∧
    s.setPair .SP v = { s with sp := v }

/-- O32. Both complete with SP plus the displacement read as signed, modulo 2^16, in HL or in SP; Z and N are 0, H
is the carry out of bit 3 and C the carry out of bit 7 of the unsigned addition of the raw byte to the low byte
of the old SP. The rule is the spec's decision D21 (log 9). Rests on: 41_load16_stack.md (LD HL,SP+r8);
43_alu16.md (ADD SP,r8). -/
def Obligations.StackPointerDisplacement : Prop :=
  ∀ (d : Byte) (s : State),
    let sum : Word := BitVec.ofInt 16 ((s.sp.toNat : Int) + d.toInt)
    let fl : Flags :=
      { z := false, n := false,
        h := decide (s.sp.toNat % 16 + d.toNat % 16 > 15), c := decide (s.sp.toNat % 256 + d.toNat > 255) }
    exec (.ld_HL_SPr8 d) s =
      .next { s with h := sum.extractLsb' 8 8, l := sum.extractLsb' 0 8, flags := fl, pc := s.pc + 2 } ∧
    exec (.add_SP_r8 d) s = .next { s with sp := sum, flags := fl, pc := s.pc + 2 }

/-- O33. PUSH completes, wherever SP-1 and SP-2 may be stored to, with the high byte written to SP-1 and then the
low byte to SP-2 through the bus, SP down by 2 and PC + 1; F is the low byte for AF. LD (a16),SP completes
likewise with the low byte of SP at a16 and then the high byte at a16 + 1, and PC + 3. The orders are decisions
D17 and D22 (log 9). Rests on: 41_load16_stack.md (Push16, PUSH, LD (a16),SP); 20_memory.md section 3 (byte
order). -/
def Obligations.PushAndStoreSp : Prop :=
  (∀ (p : StackPair) (s : State), s.mayStore (s.sp - 1) → s.mayStore (s.sp - 2) →
    let hi : Byte := match p with | .BC => s.b | .DE => s.d | .HL => s.h | .AF => s.a
    let lo : Byte := match p with | .BC => s.c | .DE => s.e | .HL => s.l | .AF => s.f
    exec (.pushRow p) s =
      .next { busEffect (s.sp - 2) lo (busEffect (s.sp - 1) hi s) with sp := s.sp - 2, pc := s.pc + 1 }) ∧
  (∀ (a16 : Word) (s : State), s.mayStore a16 → s.mayStore (a16 + 1) →
    exec (.ld_ma16_SP a16) s =
      .next { busEffect (a16 + 1) (s.sp.extractLsb' 8 8) (busEffect a16 (s.sp.extractLsb' 0 8) s) with
              pc := s.pc + 3 })

/-- O34. POP completes in every state with the byte at SP in the low register, the byte at SP+1 in the high one, SP
up by 2 and PC + 1; POP AF sets Z, N, H, C from bits 7, 6, 5, 4 and drops bits 3 to 0 (decisions D3, D5; log 9);
nothing else changes. Rests on: 41_load16_stack.md (Pop16, POP); 10_state.md section 3. -/
def Obligations.PopRestoresAPair : Prop :=
  ∀ s : State,
    let lo := s.peek s.sp
    let hi := s.peek (s.sp + 1)
    exec (.popRow .BC) s = .next { s with b := hi, c := lo, sp := s.sp + 2, pc := s.pc + 1 } ∧
    exec (.popRow .DE) s = .next { s with d := hi, e := lo, sp := s.sp + 2, pc := s.pc + 1 } ∧
    exec (.popRow .HL) s = .next { s with h := hi, l := lo, sp := s.sp + 2, pc := s.pc + 1 } ∧
    exec (.popRow .AF) s =
      .next { s with a := hi, sp := s.sp + 2, pc := s.pc + 1,
                     flags := { z := lo.getLsbD 7, n := lo.getLsbD 6, h := lo.getLsbD 5, c := lo.getLsbD 4 } }

/-- O35. Where SP-1 and SP-2 both lie in memory that stores what it is given (plain, work RAM or echo RAM), PUSH rr
completes and POP rr after it completes with the pair, AF and its flags among them, and SP as they were before
the PUSH. Rests on: 41_load16_stack.md (Push16, Pop16); 20_memory.md section 2; 10_state.md section 3. -/
def Obligations.PopUndoesPush : Prop :=
  ∀ (p : StackPair) (s : State),
    (regionOf (s.sp - 1) = .plain ∨ regionOf (s.sp - 1) = .workRam ∨ regionOf (s.sp - 1) = .echoRam) →
    (regionOf (s.sp - 2) = .plain ∨ regionOf (s.sp - 2) = .workRam ∨ regionOf (s.sp - 2) = .echoRam) →
      ∃ t u : State, exec (.pushRow p) s = .next t ∧ exec (.popRow p) t = .next u ∧
        u.stackPair p = s.stackPair p ∧ u.sp = s.sp ∧ u.flags = s.flags

/-- O36. C6 d8 is ADD A,d8. It completes in every state with A the sum modulo 256, Z set iff that is 0, N clear, H
set iff the low nibbles sum above 15, C set iff the sum is above 255, PC + 2 and nothing else changed. ADC A,d8
completes likewise with the carry before the instruction added in and entering both comparisons. ADD A,d8 is the
source's own; the opcode and immediate form of ADC A,d8 are the spec's own (general knowledge, D1; log 8,
presumed). Rests on: 42_alu8.md section 1 (primitives); 42_alu8.md section 2 (add and subtract). -/
def Obligations.AddImmediate : Prop :=
  ∀ (d : Byte) (s : State),
    let after (cin : Nat) : State :=
      { s with
        a := BitVec.ofNat 8 (s.a.toNat + d.toNat + cin)
        flags := { z := decide ((s.a.toNat + d.toNat + cin) % 256 = 0), n := false,
                   h := decide (s.a.toNat % 16 + d.toNat % 16 + cin > 15),
                   c := decide (s.a.toNat + d.toNat + cin > 255) }
        pc := s.pc + 2 }
    encode (.add_A_d8 d) = [0xC6, d] ∧
    exec (.add_A_d8 d) s = .next (after 0) ∧
    exec (.adc_A_d8 d) s = .next (after (if s.flags.c then 1 else 0))

/-- O37. For every operand location, ADD and ADC complete with A the sum of A, the operand and the carry-in (0, or C
before the instruction) modulo 256; Z, H and C as for the immediate forms, N clear, PC + 1 and nothing else
changed. Operand locations and opcodes are the spec's own (D1; log 8). Rests on: 42_alu8.md section 1
(primitives); 42_alu8.md section 2 (add and subtract). -/
def Obligations.AddAndAdcOfALocation : Prop :=
  ∀ (x : Loc8) (s : State),
    let v : Byte := match x with | .reg r => s.reg r | .atHL => s.peek (s.h ++ s.l)
    let after (cin : Nat) : State :=
      { s with
        a := BitVec.ofNat 8 (s.a.toNat + v.toNat + cin)
        flags := { z := decide ((s.a.toNat + v.toNat + cin) % 256 = 0), n := false,
                   h := decide (s.a.toNat % 16 + v.toNat % 16 + cin > 15),
                   c := decide (s.a.toNat + v.toNat + cin > 255) }
        pc := s.pc + 1 }
    exec (.aluLoc .add x) s = .next (after 0) ∧
    exec (.aluLoc .adc x) s = .next (after (if s.flags.c then 1 else 0))

/-- O38. SUB and SBC complete with A the difference of A and the operand (and of the carry for SBC) modulo 256, CP
with A unchanged; Z set iff the difference is 0, N set, H set iff the low nibble of A is below that of the
operand plus the borrow-in, C set iff A is below the operand plus the borrow-in; PC past the length, nothing
else changed. Operand forms and opcodes are the spec's own (D1; log 8). Rests on: 42_alu8.md section 1
(primitives); 42_alu8.md section 2 (add and subtract); 42_alu8.md section 4 (compare). -/
def Obligations.SubtractAndCompare : Prop :=
  ∀ (x : Loc8) (d : Byte) (s : State),
    let v : Byte := match x with | .reg r => s.reg r | .atHL => s.peek (s.h ++ s.l)
    let diff (y : Byte) (cin : Nat) : Byte := s.a - y - BitVec.ofNat 8 cin
    let after (y : Byte) (cin : Nat) (keepA : Bool) (len : Word) : State :=
      { s with
        a := if keepA then s.a else diff y cin
        flags := { z := decide (diff y cin = 0), n := true,
                   h := decide (s.a.toNat % 16 < y.toNat % 16 + cin), c := decide (s.a.toNat < y.toNat + cin) }
        pc := s.pc + len }
    let borrow : Nat := if s.flags.c then 1 else 0
    exec (.aluLoc .sub x) s = .next (after v 0 false 1) ∧ exec (.aluImm .sub d) s = .next (after d 0 false 2) ∧
    exec (.aluLoc .sbc x) s = .next (after v borrow false 1) ∧ exec (.aluImm .sbc d) s = .next (after d borrow false 2) ∧
    exec (.aluLoc .cp x) s = .next (after v 0 true 1) ∧ exec (.aluImm .cp d) s = .next (after d 0 true 2)

/-- O39. AND, XOR and OR complete with A the bitwise result, Z set iff it is 0, N and C clear, H set for AND and
clear for XOR and OR, PC past the length. CPL completes with every bit of A inverted, N and H set, Z and C kept;
SCF with C set, CCF with C inverted, both with N and H clear and Z kept; PC + 1. Nothing else changes. The rules
are the spec's own (general knowledge, D2; log 9). Rests on: 42_alu8.md section 3 (logic); 42_alu8.md section 6
(CPL, SCF, CCF). -/
def Obligations.LogicComplementAndCarryInstructions : Prop :=
  ∀ (x : Loc8) (d : Byte) (s : State),
    let v : Byte := match x with | .reg r => s.reg r | .atHL => s.peek (s.h ++ s.l)
    let after (r : Byte) (h : Bool) (len : Word) : State :=
      { s with a := r, flags := { z := decide (r = 0), n := false, h := h, c := false }, pc := s.pc + len }
    exec (.aluLoc .and x) s = .next (after (s.a &&& v) true 1) ∧ exec (.aluImm .and d) s = .next (after (s.a &&& d) true 2) ∧
    exec (.aluLoc .xor x) s = .next (after (s.a ^^^ v) false 1) ∧ exec (.aluImm .xor d) s = .next (after (s.a ^^^ d) false 2) ∧
    exec (.aluLoc .or x) s = .next (after (s.a ||| v) false 1) ∧ exec (.aluImm .or d) s = .next (after (s.a ||| d) false 2) ∧
    exec .cpl s = .next { s with a := ~~~s.a, flags := { s.flags with n := true, h := true }, pc := s.pc + 1 } ∧
    exec .scf s = .next { s with flags := { s.flags with n := false, h := false, c := true }, pc := s.pc + 1 } ∧
    exec .ccf s =
      .next { s with flags := { s.flags with n := false, h := false, c := !s.flags.c }, pc := s.pc + 1 }

/-- O40. Of a register they complete in every state with the value plus or minus 1 modulo 256 there; of (HL),
wherever HL may be stored to, with one bus write of it at HL. Z is set iff the computed result is 0 (also where
memory did not take it), N is 0 for INC and 1 for DEC, H is the carry or borrow of the low nibble, C is
unchanged, PC + 1, nothing else changes. Opcodes are the spec's own (D1; log 8). Rests on: 42_alu8.md section 5
(increment and decrement); 20_memory.md section 2. -/
def Obligations.IncrementAndDecrement : Prop :=
  ∀ s : State,
    let incF (v : Byte) : Flags :=
      { z := decide (v = 0xFF), n := false, h := decide (v.toNat % 16 = 15), c := s.flags.c }
    let decF (v : Byte) : Flags :=
      { z := decide (v = 0x01), n := true, h := decide (v.toNat % 16 = 0), c := s.flags.c }
    (∀ r : Reg8,
      exec (.incLoc (.reg r)) s =
        .next { s.setReg r (s.reg r + 1) with flags := incF (s.reg r), pc := s.pc + 1 } ∧
      exec (.decLoc (.reg r)) s =
        .next { s.setReg r (s.reg r - 1) with flags := decF (s.reg r), pc := s.pc + 1 }) ∧
    (s.mayStore s.hl →
      exec (.incLoc .atHL) s =
        .next { busEffect s.hl (s.peek s.hl + 1) s with flags := incF (s.peek s.hl), pc := s.pc + 1 } ∧
      exec (.decLoc .atHL) s =
        .next { busEffect s.hl (s.peek s.hl - 1) s with flags := decF (s.peek s.hl), pc := s.pc + 1 })

/-- O41. After an addition (N = 0) 0x60 is added if C is set or A is above 0x99, and 0x06 if H is set or the low
nibble of A is above 9; after a subtraction (N = 1) they are subtracted by C and by H alone. Z follows the
result, N is kept, H is cleared, C is set with the 0x60 of an addition and kept by a subtraction, PC + 1. The
algorithm is the spec's decision D20 (log 9). Rests on: 42_alu8.md section 6 (DAA). -/
def Obligations.DecimalAdjust : Prop :=
  ∀ s : State,
    let high : Bool := s.flags.c || (!s.flags.n && decide (s.a.toNat > 0x99))
    let low : Bool := s.flags.h || (!s.flags.n && decide (s.a.toNat % 16 > 9))
    let correction : Byte := (if high then 0x60 else 0) + (if low then 0x06 else 0)
    let r : Byte := if s.flags.n then s.a - correction else s.a + correction
    exec .daa s = .next
      { s with a := r, flags := { z := decide (r = 0), n := s.flags.n, h := false, c := high }, pc := s.pc + 1 }

/-- O42. For every two bytes that hold two decimal digits, ADD A,d8 then DAA completes with A the two decimal digits
of the sum modulo 100 and C set iff the sum is 100 or more; SUB d8 then DAA with those of the difference modulo
100 and C set iff it is negative. It follows from the spec's algorithm (decision D20; log 9). Rests on:
42_alu8.md section 6 (DAA); 42_alu8.md section 2; 00_scope.md section 7 (BCD). -/
def Obligations.DecimalAdjustGivesDecimalSums : Prop :=
  ∀ (d : Byte) (s : State),
    let digits (v : Byte) : Nat := 10 * (v.toNat / 16) + v.toNat % 16
    let bcd (v : Byte) : Prop := v.toNat / 16 ≤ 9 ∧ v.toNat % 16 ≤ 9
    bcd s.a → bcd d →
      (∃ t u : State, exec (.add_A_d8 d) s = .next t ∧ exec .daa t = .next u ∧ bcd u.a ∧
        digits u.a = (digits s.a + digits d) % 100 ∧ u.flags.c = decide (100 ≤ digits s.a + digits d)) ∧
      (∃ t u : State, exec (.sub_d8 d) s = .next t ∧ exec .daa t = .next u ∧ bcd u.a ∧
        digits u.a = (100 + digits s.a - digits d) % 100 ∧ u.flags.c = decide (digits s.a < digits d))

/-- O43. For BC, DE, HL and SP it completes with HL the sum modulo 2^16, N clear, H set iff the low twelve bits sum
above 0x0FFF, C set iff the sum is above 0xFFFF, Z unchanged, PC + 1 and nothing else changed. The carry rule
and Z unchanged are the spec's own (D2; log 9). Rests on: 43_alu16.md (ADD HL,rr). -/
def Obligations.AddToHL : Prop :=
  ∀ (p : Pair) (s : State),
    let x : Word := match p with | .BC => s.b ++ s.c | .DE => s.d ++ s.e | .HL => s.h ++ s.l | .SP => s.sp
    let sum : Nat := (s.h ++ s.l).toNat + x.toNat
    exec (.addHLPair p) s = .next
      { s with
        h := BitVec.ofNat 8 (sum / 256), l := BitVec.ofNat 8 sum
        flags := { z := s.flags.z, n := false,
                   h := decide ((s.h ++ s.l).toNat % 4096 + x.toNat % 4096 > 4095), c := decide (sum > 65535) }
        pc := s.pc + 1 }

/-- O44. rlc moves bit 7 to bit 0 and to the carry, rrc bit 0 to bit 7 and to the carry; rl and rr move the carry-in
in and the end bit out; sla shifts left and sra and srl right, the bit shifted out being the carry, sra keeping
bit 7 and srl clearing it; swap exchanges the nibbles. Said for the result and the moved bit the CB instructions
use. Rests on: R200; R201; R202; R203; R204; R205; R206; R207. -/
def Obligations.RotateAndShiftPrimitives : Prop :=
  ∀ (v : Byte) (cin : Bool),
    let n := v.toNat
    rotResult .rlc v cin = (BitVec.ofNat 8 (2 * n + n / 128), decide (n ≥ 128)) ∧
    rotResult .rrc v cin = (BitVec.ofNat 8 (n / 2 + 128 * (n % 2)), decide (n % 2 = 1)) ∧
    rotResult .rl v cin = (BitVec.ofNat 8 (2 * n + cin.toNat), decide (n ≥ 128)) ∧
    rotResult .rr v cin = (BitVec.ofNat 8 (n / 2 + 128 * cin.toNat), decide (n % 2 = 1)) ∧
    rotResult .sla v cin = (BitVec.ofNat 8 (2 * n), decide (n ≥ 128)) ∧
    rotResult .sra v cin = (BitVec.ofNat 8 (n / 2 + 128 * (n / 128)), decide (n % 2 = 1)) ∧
    rotResult .srl v cin = (BitVec.ofNat 8 (n / 2), decide (n % 2 = 1)) ∧
    (rotResult .swap v cin).1 = BitVec.ofNat 8 (16 * (n % 16) + n / 16)

/-- O45. Each completes in every state with A rotated by its primitive (through the old C for RLA and RRA), C the
bit moved out, Z, N and H 0 whatever the result, PC + 1 and nothing else changed. Z, N, H are decision D19 (log
9). Rests on: 44_rotate_shift_bit.md section 2 (accumulator rotates); 44_rotate_shift_bit.md section 1. -/
def Obligations.AccumulatorRotates : Prop :=
  ∀ s : State,
    let n := s.a.toNat
    let cin : Nat := if s.flags.c then 1 else 0
    let after (r : Nat) (c : Bool) : State :=
      { s with a := BitVec.ofNat 8 r, flags := { z := false, n := false, h := false, c := c }, pc := s.pc + 1 }
    exec .rlca s = .next (after (2 * n + n / 128) (decide (n ≥ 128))) ∧
    exec .rrca s = .next (after (n / 2 + 128 * (n % 2)) (decide (n % 2 = 1))) ∧
    exec .rla s = .next (after (2 * n + cin) (decide (n ≥ 128))) ∧
    exec .rra s = .next (after (n / 2 + 128 * cin) (decide (n % 2 = 1)))

/-- O46. Of a register they complete in every state with the result of the operation there; of (HL), wherever HL may
be stored to, with one bus write of it at HL. Z is set iff the computed result is 0, N and H are 0, C is the bit
moved out (0 for SWAP), PC + 2 and nothing else changes. Z, N, H are decision D19 (log 9). Rests on:
44_rotate_shift_bit.md section 3; 44_rotate_shift_bit.md section 1 (operand convention); 20_memory.md section 2. -/
def Obligations.CbRotatesAndShifts : Prop :=
  ∀ (op : RotOp) (s : State),
    let cin : Nat := if s.flags.c then 1 else 0
    let result (v : Byte) : Nat :=
      match op with
      | .rlc => (2 * v.toNat + v.toNat / 128) % 256
      | .rrc => v.toNat / 2 + 128 * (v.toNat % 2)
      | .rl => (2 * v.toNat + cin) % 256
      | .rr => v.toNat / 2 + 128 * cin
      | .sla => (2 * v.toNat) % 256
      | .sra => v.toNat / 2 + 128 * (v.toNat / 128)
      | .swap => 16 * (v.toNat % 16) + v.toNat / 16
      | .srl => v.toNat / 2
    let out (v : Byte) : Bool :=
      match op with
      | .rlc => decide (v.toNat ≥ 128)
      | .rl => decide (v.toNat ≥ 128)
      | .sla => decide (v.toNat ≥ 128)
      | .swap => false
      | .rrc => decide (v.toNat % 2 = 1)
      | .rr => decide (v.toNat % 2 = 1)
      | .sra => decide (v.toNat % 2 = 1)
      | .srl => decide (v.toNat % 2 = 1)
    let fl (v : Byte) : Flags := { z := decide (result v = 0), n := false, h := false, c := out v }
    (∀ r : Reg8, exec (.rotLoc op (.reg r)) s =
      .next { s.setReg r (BitVec.ofNat 8 (result (s.reg r))) with flags := fl (s.reg r), pc := s.pc + 2 }) ∧
    (s.mayStore s.hl → exec (.rotLoc op .atHL) s =
      .next { busEffect s.hl (BitVec.ofNat 8 (result (s.peek s.hl))) s with
              flags := fl (s.peek s.hl), pc := s.pc + 2 })

/-- O47. It completes in every state with Z set iff bit b of the register, or of the byte at HL, is 0, N clear, H
set, C unchanged and PC + 2; no register and no byte changes, so BIT b,(HL) at DIV does not clear it. The
encoding is the spec's own (D1; log 8). Rests on: 44_rotate_shift_bit.md section 4 (BIT). -/
def Obligations.BitTest : Prop :=
  ∀ (b : BitIdx) (x : Loc8) (s : State),
    let v : Byte := match x with | .reg r => s.reg r | .atHL => s.peek (s.h ++ s.l)
    exec (.bitLoc b x) s = .next
      { s with flags := { z := !v.getLsbD b.index, n := false, h := true, c := s.flags.c }, pc := s.pc + 2 }

/-- O48. Of a register they complete in every state with the value minus 2^b where the bit was set (RES), or plus
2^b where it was clear (SET), and otherwise the same value; of (HL), wherever HL may be stored to, with one bus
write of it at HL, made even where the bit does not change. No flag changes, PC + 2. The encoding is the spec's
own (D1; log 8). Rests on: 44_rotate_shift_bit.md section 4 (RES, SET); 20_memory.md section 2. -/
def Obligations.ResetAndSetBit : Prop :=
  ∀ (b : BitIdx) (s : State),
    let res (v : Byte) : Byte := BitVec.ofNat 8 (if v.getLsbD b.index then v.toNat - 2 ^ b.index else v.toNat)
    let set (v : Byte) : Byte := BitVec.ofNat 8 (if v.getLsbD b.index then v.toNat else v.toNat + 2 ^ b.index)
    (∀ r : Reg8,
      exec (.resLoc b (.reg r)) s = .next { s.setReg r (res (s.reg r)) with pc := s.pc + 2 } ∧
      exec (.setLoc b (.reg r)) s = .next { s.setReg r (set (s.reg r)) with pc := s.pc + 2 }) ∧
    (s.mayStore s.hl →
      exec (.resLoc b .atHL) s = .next { busEffect s.hl (res (s.peek s.hl)) s with pc := s.pc + 2 } ∧
      exec (.setLoc b .atHL) s = .next { busEffect s.hl (set (s.peek s.hl)) s with pc := s.pc + 2 })

/-- O49. Running RLCA eight times completes with A as it was and C equal to bit 0 of A; running RLA nine times
completes with A and C as they were; eight RRCA and nine RRA likewise give A back, the latter C too. The spec
derives this from its primitives. Rests on: 44_rotate_shift_bit.md section 5 (round trips); 90_conflicts.md C3. -/
def Obligations.RotateRoundTrips : Prop :=
  ∀ s : State,
    let times (i : Instr) (n : Nat) : Result := Nat.repeat (fun o => andThen o (exec i)) n (.next s)
    (∃ t : State, times .rlca 8 = .next t ∧ t.a = s.a ∧ t.flags.c = s.a.getLsbD 0) ∧
    (∃ t : State, times .rrca 8 = .next t ∧ t.a = s.a ∧ t.flags.c = s.a.getLsbD 7) ∧
    (∃ t : State, times .rla 9 = .next t ∧ t.a = s.a ∧ t.flags.c = s.flags.c) ∧
    (∃ t : State, times .rra 9 = .next t ∧ t.a = s.a ∧ t.flags.c = s.flags.c)

/-- O50. JP a16 completes with PC the operand, JP (HL) with PC = HL and no memory read, JR with PC + 2 plus the
signed displacement modulo 2^16; the conditional forms do so iff Z is 0, Z is 1, C is 0 or C is 1 for NZ, Z, NC,
C, and otherwise only move past the whole instruction. Conditions, bases and opcodes are the spec's own (general
knowledge, D1, D2; log 8, log 9). Rests on: 45_control.md (conditions, JP, JR); 30_encoding.md section 2. -/
def Obligations.Jumps : Prop :=
  ∀ (cc : Cond) (n : Word) (d : Byte) (s : State),
    let taken : Bool := match cc with | .NZ => !s.flags.z | .Z => s.flags.z | .NC => !s.flags.c | .C => s.flags.c
    let target : Word := BitVec.ofInt 16 ((s.pc.toNat : Int) + 2 + d.toInt)
    exec (.jp_a16 n) s = .next { s with pc := n } ∧
    exec .jp_mHL s = .next { s with pc := s.h ++ s.l } ∧
    exec (.jpCond cc n) s = .next { s with pc := if taken then n else s.pc + 3 } ∧
    exec (.jr_r8 d) s = .next { s with pc := target } ∧
    exec (.jrCond cc d) s = .next { s with pc := if taken then target else s.pc + 2 }

/-- O51. CALL and RST complete, wherever SP-1 and SP-2 may be stored to, with the address after the instruction (PC
+ 3 or PC + 1) pushed high byte first through the bus, SP down by 2 and PC the operand or the RST target; a
conditional CALL does so iff its condition holds, and otherwise only moves past its three bytes, in every state.
Return addresses, targets and opcodes are the spec's own (D1, D2; log 8, log 9). Rests on: 45_control.md (CALL,
RST); 41_load16_stack.md (Push16). -/
def Obligations.CallsAndRestarts : Prop :=
  ∀ (cc : Cond) (n : Word) (k : RstTarget) (s : State),
    let taken : Bool := match cc with | .NZ => !s.flags.z | .Z => s.flags.z | .NC => !s.flags.c | .C => s.flags.c
    let pushing (back target : Word) : State :=
      { busEffect (s.sp - 2) (back.extractLsb' 0 8) (busEffect (s.sp - 1) (back.extractLsb' 8 8) s) with
        sp := s.sp - 2, pc := target }
    let rst : Word := match k with
      | .t00 => 0x00 | .t08 => 0x08 | .t10 => 0x10 | .t18 => 0x18 | .t20 => 0x20 | .t28 => 0x28 | .t30 => 0x30
      | .t38 => 0x38
    (taken = false → exec (.callCond cc n) s = .next { s with pc := s.pc + 3 }) ∧
    (s.mayStore (s.sp - 1) → s.mayStore (s.sp - 2) →
      exec (.call_a16 n) s = .next (pushing (s.pc + 3) n) ∧
      (taken = true → exec (.callCond cc n) s = .next (pushing (s.pc + 3) n)) ∧
      exec (.rstRow k) s = .next (pushing (s.pc + 1) rst))

/-- O52. RET completes in every state with PC the word whose low byte is at SP and high byte at SP+1, and SP up by
2; RET cc does so iff its condition holds and otherwise only moves to PC + 1; RETI also sets ime to Enabled
whatever it was. Nothing else changes, no flag among it. Opcodes and conditions are the spec's own (D1, D2; log
8, log 9). Rests on: 45_control.md (RET, RET cc, RETI); 41_load16_stack.md (Pop16); 60_exceptions.md section 4
(trap return). -/
def Obligations.Returns : Prop :=
  ∀ (cc : Cond) (s : State),
    let taken : Bool := match cc with | .NZ => !s.flags.z | .Z => s.flags.z | .NC => !s.flags.c | .C => s.flags.c
    let popped : State := { s with pc := s.peek (s.sp + 1) ++ s.peek s.sp, sp := s.sp + 2 }
    exec .ret s = .next popped ∧
    exec (.retCond cc) s = .next (if taken then popped else { s with pc := s.pc + 1 }) ∧
    exec .reti s = .next { popped with ime := .enabled }

/-- O53. 00 is NOP: it completes in every state with PC + 1 and nothing else changed. DI completes with ime Disabled
from any state, a pending schedule cancelled. RETI completes with ime Enabled from any state, and it is Enabled
after the next step's count too. What else a step does around NOP is O8. The opcodes of DI and RETI are the
spec's own (D1; log 8, presumed). Rests on: 46_system.md (NOP, DI); 60_exceptions.md section 2 (DI, RETI);
45_control.md (RETI). -/
def Obligations.NopDiAndReti : Prop :=
  ∀ s : State,
    (encode .nop = [0x00] ∧ exec .nop s = .next { s with pc := s.pc + 1 }) ∧
    (∃ t : State, exec .di s = .next t ∧ t.ime = .disabled) ∧
    (∃ t : State, exec .reti s = .next t ∧ t.ime = .enabled ∧ (timerTick t).ime.tick = .enabled)

/-- O54. HALT completes with halted set and PC unchanged; STOP with PC + 2 whatever its second byte under nop2, and
is refused under refuse; DI with ime Disabled and PC + 1; EI with ScheduledEnable(2) from Disabled and ime
unchanged from any other state, and PC + 1; nothing else changes. These are decisions D7, D8, D9 (log 9, log
10). Rests on: 46_system.md (HALT, STOP, DI, EI); 60_exceptions.md section 2. -/
def Obligations.HaltStopDiAndEi : Prop :=
  ∀ (pad : Byte) (s : State),
    exec .halt s = .next { s with halted := true } ∧
    (s.policy.stop = .nop2 → exec (.stop pad) s = .next { s with pc := s.pc + 2 }) ∧
    (s.policy.stop = .refuse → exec (.stop pad) s = .refused .stopOutsideSpec) ∧
    exec .di s = .next { s with ime := .disabled, pc := s.pc + 1 } ∧
    exec .ei s =
      .next { s with ime := if s.ime = .disabled then .scheduled .two else s.ime, pc := s.pc + 1 }

/-- O55. The eleven opcodes are one byte each. Under the permissive policy each completes with PC + 1, the event
(opcode, its address) reported and nothing else changed; under the strict policy it is the fault with the same
data and has no next state. The no-op and the report are the source's; the default policy is decision D10, a
fault without a next state D29 (log 11, presumed), the event's payload D36 (log 9, presumed); the policy field
(log 4) and the event field (log 5) are the model's choices. Rests on: 46_system.md (illegal opcodes);
60_exceptions.md section 6 (exceptions, diagnostics and faults); notes/assumptions/11.md. -/
def Obligations.IllegalOpcodesReportOrFault : Prop :=
  ∀ (k : IllegalOp) (s : State),
    (encode (.illegalRow k) = [k.opcode] ∧
      k.opcode ∈ ([0xD3, 0xDB, 0xDD, 0xE3, 0xE4, 0xEB, 0xEC, 0xED, 0xF4, 0xFC, 0xFD] : List Byte)) ∧
    (s.policy.illegalOpcode = .permissive →
      exec (.illegalRow k) s =
        .next { s with pc := s.pc + 1, events := s.events ++ [.illegalOpcode k.opcode s.pc] }) ∧
    (s.policy.illegalOpcode = .strict → exec (.illegalRow k) s = .fault (.illegalOpcode k.opcode s.pc))

/-- O56. Running the row PREFIX CB is running the CB instruction of the sub-opcode at PC + 1, in every state, and it
completes wherever HL may be stored to; the instruction fetched where the byte at PC is 0xCB is that
instruction. That the row has a meaning of its own is the model's choice (log 7). Rests on: 46_system.md (PREFIX
CB); 30_encoding.md section 3; notes/assumptions/7.md. -/
def Obligations.PrefixRowRunsTheSecondTable : Prop :=
  ∀ s : State,
    exec .prefixCb s = exec (cbInstr (s.peek (s.pc + 1))) s ∧
    (s.peek s.pc = 0xCB → fetchInstr s = cbInstr (s.peek (s.pc + 1))) ∧
    (s.mayStore s.hl → ∃ t : State, exec .prefixCb s = .next t)

/-- O57. Below 0x8000 a write changes nothing; in 0xC000 to 0xDDFF and 0xE000 to 0xFDFF it stores the byte and its
alias 0x2000 away; at 0xFF04 it clears DIV and the counter whatever the value; at any address of none of the
special ranges it stores the byte; and every other byte and all other state is unchanged. Any bus write at all
keeps work RAM and echo RAM equal where they were. Rests on: R44; R45; R46; R49; R52. -/
def Obligations.BusWritePolicy : Prop :=
  ∀ (a : Word) (v : Byte) (s : State),
    (a.toNat < 0x8000 → busWrite a v s = .next s) ∧
    (0xC000 ≤ a.toNat → a.toNat ≤ 0xDDFF → ∃ m : Memory, busWrite a v s = .next { s with mem := m } ∧
      ∀ x : Word, m.read x.toNat = if x = a ∨ x = a + 0x2000 then v else s.peek x) ∧
    (0xE000 ≤ a.toNat → a.toNat ≤ 0xFDFF → ∃ m : Memory, busWrite a v s = .next { s with mem := m } ∧
      ∀ x : Word, m.read x.toNat = if x = a ∨ x = a - 0x2000 then v else s.peek x) ∧
    (a = 0xFF04 → ∃ m : Memory, busWrite a v s = .next { s with mem := m, ctr := 0 } ∧
      ∀ x : Word, m.read x.toNat = if x = 0xFF04 then 0 else s.peek x) ∧
    (0x8000 ≤ a.toNat → ¬ (0xC000 ≤ a.toNat ∧ a.toNat ≤ 0xDDFF) → ¬ (0xE000 ≤ a.toNat ∧ a.toNat ≤ 0xFDFF) →
      ¬ (0xFEA0 ≤ a.toNat ∧ a.toNat ≤ 0xFEFF) → a ∉ ([0xFF00, 0xFF04, 0xFF07, 0xFF46] : List Word) →
      ∃ m : Memory, busWrite a v s = .next { s with mem := m } ∧
        ∀ x : Word, m.read x.toNat = if x = a then v else s.peek x) ∧
    (s.echoed → ∀ t : State, busWrite a v s = .next t → t.echoed)

/-- O58. At 0xFF00 only bits 5:4, at 0xFF07 only bits 2:0 take the written value, and nothing else changes. In
0xFEA0 to 0xFEFF nothing is written: under the permissive policy the event (address, value) is added after those
already reported, under the strict one it is the fault with the same data. Kept bits and the fault are decisions
D11, D12, D13 (log 9, log 11); the policy field (log 4) and the events field (log 5) are the model's choices.
Rests on: 20_memory.md section 2 (unusable region, JOYP, TAC); 60_exceptions.md section 6. -/
def Obligations.MaskedAndRefusedWrites : Prop :=
  ∀ (a : Word) (v : Byte) (s : State),
    (∃ m : Memory, busWrite 0xFF00 v s = .next { s with mem := m } ∧
      ∀ x : Word, m.read x.toNat =
        if x = 0xFF00 then (s.peek 0xFF00 &&& 0xCF) ||| (v &&& 0x30) else s.peek x) ∧
    (∃ m : Memory, busWrite 0xFF07 v s = .next { s with mem := m } ∧
      ∀ x : Word, m.read x.toNat =
        if x = 0xFF07 then (s.peek 0xFF07 &&& 0xF8) ||| (v &&& 0x07) else s.peek x) ∧
    (0xFEA0 ≤ a.toNat → a.toNat ≤ 0xFEFF →
      (s.policy.unusableWrite = .permissive →
        busWrite a v s = .next { s with events := s.events ++ [.unusableWrite a v] }) ∧
      (s.policy.unusableWrite = .strict → busWrite a v s = .fault (.unusableWrite a v)))

/-- O59. It completes in every state with mem[0xFF46] = v and, for each k below 160, mem[0xFE00 + k] the byte at
0x100 v + k with v already stored at 0xFF46; every other byte and all other state is unchanged. It holds for
every v, OAM itself and the I/O page among them. The details are decision D14 (log 9). Rests on: 20_memory.md
section 2 (DMA); 70_reset_and_hazards.md section 3 (DMA). -/
def Obligations.DmaCopiesAPageIntoOam : Prop :=
  ∀ (v : Byte) (s : State), ∃ m : Memory, busWrite 0xFF46 v s = .next { s with mem := m } ∧
    (∀ k : Nat, k < 160 →
      m.read (0xFE00 + k) = if v.toNat * 256 + k = 0xFF46 then v else s.mem.read (v.toNat * 256 + k)) ∧
    (∀ x : Word, ¬ (0xFE00 ≤ x.toNat ∧ x.toNat ≤ 0xFE9F) → m.read x.toNat = if x = 0xFF46 then v else s.peek x)

/-- O60. For an image of at most 0x8000 bytes load completes with byte k of it at address k, raw, and everything
else as it was; a longer image is refused, being outside the spec (decision D27; log 15). Rests on:
70_reset_and_hazards.md section 2 (host interface); notes/assumptions/15.md. -/
def Obligations.LoadPlacesTheImage : Prop :=
  ∀ (image : List Byte) (s : State),
    (image.length ≤ 0x8000 → ∃ m : Memory, load image s = .next { s with mem := m } ∧
      ∀ a : Nat, m.read a = (image[a]?).getD (s.mem.read a)) ∧
    (0x8000 < image.length → load image s = .refused .romImageTooLarge)
end

