-- ==== Sys2Proof/Laws/Bits.lean ====
section
/-! SUPPORT. The laws of the word and byte views, and of the flag byte. -/

namespace Sys2Proof

/-- A fact about each of the 256 byte values is a fact about every byte. -/
theorem byte_cases {P : Byte → Prop} (h : ∀ n : Nat, n < 256 → P (BitVec.ofNat 8 n)) (b : Byte) : P b := by
  simpa using h b.toNat b.isLt

/-- The bits of a word built from two bytes. -/
theorem getLsbD_wordOf (h l : Byte) (i : Nat) :
    (wordOf h l).getLsbD i = if i < 8 then l.getLsbD i else h.getLsbD (i - 8) :=
  BitVec.getLsbD_append

@[simp] theorem wordOf_hi_lo (v : Word) : wordOf (hiByte v) (loByte v) = v := by
  apply BitVec.eq_of_getLsbD_eq
  intro i hi
  rw [getLsbD_wordOf]
  unfold hiByte loByte
  by_cases h : i < 8
  · simp [h]
  · have h1 : i - 8 < 8 := by omega
    have h2 : 8 + (i - 8) = i := by omega
    simp [h, h1, h2]

@[simp] theorem hiByte_wordOf (h l : Byte) : hiByte (wordOf h l) = h := by
  apply BitVec.eq_of_getLsbD_eq
  intro i hi
  simp [hiByte, getLsbD_wordOf, hi]

@[simp] theorem loByte_wordOf (h l : Byte) : loByte (wordOf h l) = l := by
  apply BitVec.eq_of_getLsbD_eq
  intro i hi
  simp [loByte, getLsbD_wordOf, hi]

namespace Machine

/-- The flag byte gives the four flags back (10_state R15). -/
@[simp] theorem Flags.ofByte_toByte (f : Flags) : Flags.ofByte f.toByte = f := by
  obtain ⟨z, n, h, c⟩ := f
  cases z <;> cases n <;> cases h <;> cases c <;> rfl

/-- The flag byte of a popped byte is that byte without its low nibble (41_load16_stack R137). -/
theorem Flags.toByte_ofByte (v : Byte) : (Flags.ofByte v).toByte = v &&& 0xF0 := by
  revert v
  decide

end Machine

end Sys2Proof
end

