-- ==== Sys2Proof/Laws/State.lean ====
section
/-! SUPPORT. One lemma per field and update of State, so that no later proof unfolds a record update. -/

namespace Sys2Proof.Machine.State

variable (s : State)

/-! ### setPc -/

@[simp] theorem setPc_a (v : Word) : (s.setPc v).a = s.a := rfl
@[simp] theorem setPc_b (v : Word) : (s.setPc v).b = s.b := rfl
@[simp] theorem setPc_c (v : Word) : (s.setPc v).c = s.c := rfl
@[simp] theorem setPc_d (v : Word) : (s.setPc v).d = s.d := rfl
@[simp] theorem setPc_e (v : Word) : (s.setPc v).e = s.e := rfl
@[simp] theorem setPc_h (v : Word) : (s.setPc v).h = s.h := rfl
@[simp] theorem setPc_l (v : Word) : (s.setPc v).l = s.l := rfl
@[simp] theorem setPc_flags (v : Word) : (s.setPc v).flags = s.flags := rfl
@[simp] theorem setPc_sp (v : Word) : (s.setPc v).sp = s.sp := rfl
@[simp] theorem setPc_pc (v : Word) : (s.setPc v).pc = v := rfl
@[simp] theorem setPc_ime (v : Word) : (s.setPc v).ime = s.ime := rfl
@[simp] theorem setPc_halted (v : Word) : (s.setPc v).halted = s.halted := rfl
@[simp] theorem setPc_ctr (v : Word) : (s.setPc v).ctr = s.ctr := rfl
@[simp] theorem setPc_mem (v : Word) : (s.setPc v).mem = s.mem := rfl
@[simp] theorem setPc_events (v : Word) : (s.setPc v).events = s.events := rfl
@[simp] theorem setPc_policy (v : Word) : (s.setPc v).policy = s.policy := rfl

/-! ### setSp -/

@[simp] theorem setSp_a (v : Word) : (s.setSp v).a = s.a := rfl
@[simp] theorem setSp_b (v : Word) : (s.setSp v).b = s.b := rfl
@[simp] theorem setSp_c (v : Word) : (s.setSp v).c = s.c := rfl
@[simp] theorem setSp_d (v : Word) : (s.setSp v).d = s.d := rfl
@[simp] theorem setSp_e (v : Word) : (s.setSp v).e = s.e := rfl
@[simp] theorem setSp_h (v : Word) : (s.setSp v).h = s.h := rfl
@[simp] theorem setSp_l (v : Word) : (s.setSp v).l = s.l := rfl
@[simp] theorem setSp_flags (v : Word) : (s.setSp v).flags = s.flags := rfl
@[simp] theorem setSp_sp (v : Word) : (s.setSp v).sp = v := rfl
@[simp] theorem setSp_pc (v : Word) : (s.setSp v).pc = s.pc := rfl
@[simp] theorem setSp_ime (v : Word) : (s.setSp v).ime = s.ime := rfl
@[simp] theorem setSp_halted (v : Word) : (s.setSp v).halted = s.halted := rfl
@[simp] theorem setSp_ctr (v : Word) : (s.setSp v).ctr = s.ctr := rfl
@[simp] theorem setSp_mem (v : Word) : (s.setSp v).mem = s.mem := rfl
@[simp] theorem setSp_events (v : Word) : (s.setSp v).events = s.events := rfl
@[simp] theorem setSp_policy (v : Word) : (s.setSp v).policy = s.policy := rfl

/-! ### setFlags -/

@[simp] theorem setFlags_a (f : Flags) : (s.setFlags f).a = s.a := rfl
@[simp] theorem setFlags_b (f : Flags) : (s.setFlags f).b = s.b := rfl
@[simp] theorem setFlags_c (f : Flags) : (s.setFlags f).c = s.c := rfl
@[simp] theorem setFlags_d (f : Flags) : (s.setFlags f).d = s.d := rfl
@[simp] theorem setFlags_e (f : Flags) : (s.setFlags f).e = s.e := rfl
@[simp] theorem setFlags_h (f : Flags) : (s.setFlags f).h = s.h := rfl
@[simp] theorem setFlags_l (f : Flags) : (s.setFlags f).l = s.l := rfl
@[simp] theorem setFlags_flags (f : Flags) : (s.setFlags f).flags = f := rfl
@[simp] theorem setFlags_sp (f : Flags) : (s.setFlags f).sp = s.sp := rfl
@[simp] theorem setFlags_pc (f : Flags) : (s.setFlags f).pc = s.pc := rfl
@[simp] theorem setFlags_ime (f : Flags) : (s.setFlags f).ime = s.ime := rfl
@[simp] theorem setFlags_halted (f : Flags) : (s.setFlags f).halted = s.halted := rfl
@[simp] theorem setFlags_ctr (f : Flags) : (s.setFlags f).ctr = s.ctr := rfl
@[simp] theorem setFlags_mem (f : Flags) : (s.setFlags f).mem = s.mem := rfl
@[simp] theorem setFlags_events (f : Flags) : (s.setFlags f).events = s.events := rfl
@[simp] theorem setFlags_policy (f : Flags) : (s.setFlags f).policy = s.policy := rfl

/-! ### setIme -/

@[simp] theorem setIme_a (i : Ime) : (s.setIme i).a = s.a := rfl
@[simp] theorem setIme_b (i : Ime) : (s.setIme i).b = s.b := rfl
@[simp] theorem setIme_c (i : Ime) : (s.setIme i).c = s.c := rfl
@[simp] theorem setIme_d (i : Ime) : (s.setIme i).d = s.d := rfl
@[simp] theorem setIme_e (i : Ime) : (s.setIme i).e = s.e := rfl
@[simp] theorem setIme_h (i : Ime) : (s.setIme i).h = s.h := rfl
@[simp] theorem setIme_l (i : Ime) : (s.setIme i).l = s.l := rfl
@[simp] theorem setIme_flags (i : Ime) : (s.setIme i).flags = s.flags := rfl
@[simp] theorem setIme_sp (i : Ime) : (s.setIme i).sp = s.sp := rfl
@[simp] theorem setIme_pc (i : Ime) : (s.setIme i).pc = s.pc := rfl
@[simp] theorem setIme_ime (i : Ime) : (s.setIme i).ime = i := rfl
@[simp] theorem setIme_halted (i : Ime) : (s.setIme i).halted = s.halted := rfl
@[simp] theorem setIme_ctr (i : Ime) : (s.setIme i).ctr = s.ctr := rfl
@[simp] theorem setIme_mem (i : Ime) : (s.setIme i).mem = s.mem := rfl
@[simp] theorem setIme_events (i : Ime) : (s.setIme i).events = s.events := rfl
@[simp] theorem setIme_policy (i : Ime) : (s.setIme i).policy = s.policy := rfl

/-! ### setHalted -/

@[simp] theorem setHalted_a (x : Bool) : (s.setHalted x).a = s.a := rfl
@[simp] theorem setHalted_b (x : Bool) : (s.setHalted x).b = s.b := rfl
@[simp] theorem setHalted_c (x : Bool) : (s.setHalted x).c = s.c := rfl
@[simp] theorem setHalted_d (x : Bool) : (s.setHalted x).d = s.d := rfl
@[simp] theorem setHalted_e (x : Bool) : (s.setHalted x).e = s.e := rfl
@[simp] theorem setHalted_h (x : Bool) : (s.setHalted x).h = s.h := rfl
@[simp] theorem setHalted_l (x : Bool) : (s.setHalted x).l = s.l := rfl
@[simp] theorem setHalted_flags (x : Bool) : (s.setHalted x).flags = s.flags := rfl
@[simp] theorem setHalted_sp (x : Bool) : (s.setHalted x).sp = s.sp := rfl
@[simp] theorem setHalted_pc (x : Bool) : (s.setHalted x).pc = s.pc := rfl
@[simp] theorem setHalted_ime (x : Bool) : (s.setHalted x).ime = s.ime := rfl
@[simp] theorem setHalted_halted (x : Bool) : (s.setHalted x).halted = x := rfl
@[simp] theorem setHalted_ctr (x : Bool) : (s.setHalted x).ctr = s.ctr := rfl
@[simp] theorem setHalted_mem (x : Bool) : (s.setHalted x).mem = s.mem := rfl
@[simp] theorem setHalted_events (x : Bool) : (s.setHalted x).events = s.events := rfl
@[simp] theorem setHalted_policy (x : Bool) : (s.setHalted x).policy = s.policy := rfl

/-! ### setCtr -/

@[simp] theorem setCtr_a (v : Word) : (s.setCtr v).a = s.a := rfl
@[simp] theorem setCtr_b (v : Word) : (s.setCtr v).b = s.b := rfl
@[simp] theorem setCtr_c (v : Word) : (s.setCtr v).c = s.c := rfl
@[simp] theorem setCtr_d (v : Word) : (s.setCtr v).d = s.d := rfl
@[simp] theorem setCtr_e (v : Word) : (s.setCtr v).e = s.e := rfl
@[simp] theorem setCtr_h (v : Word) : (s.setCtr v).h = s.h := rfl
@[simp] theorem setCtr_l (v : Word) : (s.setCtr v).l = s.l := rfl
@[simp] theorem setCtr_flags (v : Word) : (s.setCtr v).flags = s.flags := rfl
@[simp] theorem setCtr_sp (v : Word) : (s.setCtr v).sp = s.sp := rfl
@[simp] theorem setCtr_pc (v : Word) : (s.setCtr v).pc = s.pc := rfl
@[simp] theorem setCtr_ime (v : Word) : (s.setCtr v).ime = s.ime := rfl
@[simp] theorem setCtr_halted (v : Word) : (s.setCtr v).halted = s.halted := rfl
@[simp] theorem setCtr_ctr (v : Word) : (s.setCtr v).ctr = v := rfl
@[simp] theorem setCtr_mem (v : Word) : (s.setCtr v).mem = s.mem := rfl
@[simp] theorem setCtr_events (v : Word) : (s.setCtr v).events = s.events := rfl
@[simp] theorem setCtr_policy (v : Word) : (s.setCtr v).policy = s.policy := rfl

/-! ### setMem -/

@[simp] theorem setMem_a (m : Memory) : (s.setMem m).a = s.a := rfl
@[simp] theorem setMem_b (m : Memory) : (s.setMem m).b = s.b := rfl
@[simp] theorem setMem_c (m : Memory) : (s.setMem m).c = s.c := rfl
@[simp] theorem setMem_d (m : Memory) : (s.setMem m).d = s.d := rfl
@[simp] theorem setMem_e (m : Memory) : (s.setMem m).e = s.e := rfl
@[simp] theorem setMem_h (m : Memory) : (s.setMem m).h = s.h := rfl
@[simp] theorem setMem_l (m : Memory) : (s.setMem m).l = s.l := rfl
@[simp] theorem setMem_flags (m : Memory) : (s.setMem m).flags = s.flags := rfl
@[simp] theorem setMem_sp (m : Memory) : (s.setMem m).sp = s.sp := rfl
@[simp] theorem setMem_pc (m : Memory) : (s.setMem m).pc = s.pc := rfl
@[simp] theorem setMem_ime (m : Memory) : (s.setMem m).ime = s.ime := rfl
@[simp] theorem setMem_halted (m : Memory) : (s.setMem m).halted = s.halted := rfl
@[simp] theorem setMem_ctr (m : Memory) : (s.setMem m).ctr = s.ctr := rfl
@[simp] theorem setMem_mem (m : Memory) : (s.setMem m).mem = m := rfl
@[simp] theorem setMem_events (m : Memory) : (s.setMem m).events = s.events := rfl
@[simp] theorem setMem_policy (m : Memory) : (s.setMem m).policy = s.policy := rfl

/-! ### advance -/

@[simp] theorem advance_a (n : Word) : (s.advance n).a = s.a := rfl
@[simp] theorem advance_b (n : Word) : (s.advance n).b = s.b := rfl
@[simp] theorem advance_c (n : Word) : (s.advance n).c = s.c := rfl
@[simp] theorem advance_d (n : Word) : (s.advance n).d = s.d := rfl
@[simp] theorem advance_e (n : Word) : (s.advance n).e = s.e := rfl
@[simp] theorem advance_h (n : Word) : (s.advance n).h = s.h := rfl
@[simp] theorem advance_l (n : Word) : (s.advance n).l = s.l := rfl
@[simp] theorem advance_flags (n : Word) : (s.advance n).flags = s.flags := rfl
@[simp] theorem advance_sp (n : Word) : (s.advance n).sp = s.sp := rfl
@[simp] theorem advance_pc (n : Word) : (s.advance n).pc = s.pc + n := rfl
@[simp] theorem advance_ime (n : Word) : (s.advance n).ime = s.ime := rfl
@[simp] theorem advance_halted (n : Word) : (s.advance n).halted = s.halted := rfl
@[simp] theorem advance_ctr (n : Word) : (s.advance n).ctr = s.ctr := rfl
@[simp] theorem advance_mem (n : Word) : (s.advance n).mem = s.mem := rfl
@[simp] theorem advance_events (n : Word) : (s.advance n).events = s.events := rfl
@[simp] theorem advance_policy (n : Word) : (s.advance n).policy = s.policy := rfl

/-! ### emit -/

@[simp] theorem emit_a (x : Diagnostic) : (s.emit x).a = s.a := rfl
@[simp] theorem emit_b (x : Diagnostic) : (s.emit x).b = s.b := rfl
@[simp] theorem emit_c (x : Diagnostic) : (s.emit x).c = s.c := rfl
@[simp] theorem emit_d (x : Diagnostic) : (s.emit x).d = s.d := rfl
@[simp] theorem emit_e (x : Diagnostic) : (s.emit x).e = s.e := rfl
@[simp] theorem emit_h (x : Diagnostic) : (s.emit x).h = s.h := rfl
@[simp] theorem emit_l (x : Diagnostic) : (s.emit x).l = s.l := rfl
@[simp] theorem emit_flags (x : Diagnostic) : (s.emit x).flags = s.flags := rfl
@[simp] theorem emit_sp (x : Diagnostic) : (s.emit x).sp = s.sp := rfl
@[simp] theorem emit_pc (x : Diagnostic) : (s.emit x).pc = s.pc := rfl
@[simp] theorem emit_ime (x : Diagnostic) : (s.emit x).ime = s.ime := rfl
@[simp] theorem emit_halted (x : Diagnostic) : (s.emit x).halted = s.halted := rfl
@[simp] theorem emit_ctr (x : Diagnostic) : (s.emit x).ctr = s.ctr := rfl
@[simp] theorem emit_mem (x : Diagnostic) : (s.emit x).mem = s.mem := rfl
@[simp] theorem emit_events (x : Diagnostic) : (s.emit x).events = s.events ++ [x] := rfl
@[simp] theorem emit_policy (x : Diagnostic) : (s.emit x).policy = s.policy := rfl

/-! ### clearEvents -/

@[simp] theorem clearEvents_a : (s.clearEvents).a = s.a := rfl
@[simp] theorem clearEvents_b : (s.clearEvents).b = s.b := rfl
@[simp] theorem clearEvents_c : (s.clearEvents).c = s.c := rfl
@[simp] theorem clearEvents_d : (s.clearEvents).d = s.d := rfl
@[simp] theorem clearEvents_e : (s.clearEvents).e = s.e := rfl
@[simp] theorem clearEvents_h : (s.clearEvents).h = s.h := rfl
@[simp] theorem clearEvents_l : (s.clearEvents).l = s.l := rfl
@[simp] theorem clearEvents_flags : (s.clearEvents).flags = s.flags := rfl
@[simp] theorem clearEvents_sp : (s.clearEvents).sp = s.sp := rfl
@[simp] theorem clearEvents_pc : (s.clearEvents).pc = s.pc := rfl
@[simp] theorem clearEvents_ime : (s.clearEvents).ime = s.ime := rfl
@[simp] theorem clearEvents_halted : (s.clearEvents).halted = s.halted := rfl
@[simp] theorem clearEvents_ctr : (s.clearEvents).ctr = s.ctr := rfl
@[simp] theorem clearEvents_mem : (s.clearEvents).mem = s.mem := rfl
@[simp] theorem clearEvents_events : (s.clearEvents).events = [] := rfl
@[simp] theorem clearEvents_policy : (s.clearEvents).policy = s.policy := rfl

/-! ### poke -/

@[simp] theorem poke_a (p : Word) (v : Byte) : (s.poke p v).a = s.a := rfl
@[simp] theorem poke_b (p : Word) (v : Byte) : (s.poke p v).b = s.b := rfl
@[simp] theorem poke_c (p : Word) (v : Byte) : (s.poke p v).c = s.c := rfl
@[simp] theorem poke_d (p : Word) (v : Byte) : (s.poke p v).d = s.d := rfl
@[simp] theorem poke_e (p : Word) (v : Byte) : (s.poke p v).e = s.e := rfl
@[simp] theorem poke_h (p : Word) (v : Byte) : (s.poke p v).h = s.h := rfl
@[simp] theorem poke_l (p : Word) (v : Byte) : (s.poke p v).l = s.l := rfl
@[simp] theorem poke_flags (p : Word) (v : Byte) : (s.poke p v).flags = s.flags := rfl
@[simp] theorem poke_sp (p : Word) (v : Byte) : (s.poke p v).sp = s.sp := rfl
@[simp] theorem poke_pc (p : Word) (v : Byte) : (s.poke p v).pc = s.pc := rfl
@[simp] theorem poke_ime (p : Word) (v : Byte) : (s.poke p v).ime = s.ime := rfl
@[simp] theorem poke_halted (p : Word) (v : Byte) : (s.poke p v).halted = s.halted := rfl
@[simp] theorem poke_ctr (p : Word) (v : Byte) : (s.poke p v).ctr = s.ctr := rfl
@[simp] theorem poke_mem (p : Word) (v : Byte) : (s.poke p v).mem = s.mem.write p.toNat v := rfl
@[simp] theorem poke_events (p : Word) (v : Byte) : (s.poke p v).events = s.events := rfl
@[simp] theorem poke_policy (p : Word) (v : Byte) : (s.poke p v).policy = s.policy := rfl

/-! ### setBc -/

@[simp] theorem setBc_a (v : Word) : (s.setBc v).a = s.a := rfl
@[simp] theorem setBc_b (v : Word) : (s.setBc v).b = hiByte v := rfl
@[simp] theorem setBc_c (v : Word) : (s.setBc v).c = loByte v := rfl
@[simp] theorem setBc_d (v : Word) : (s.setBc v).d = s.d := rfl
@[simp] theorem setBc_e (v : Word) : (s.setBc v).e = s.e := rfl
@[simp] theorem setBc_h (v : Word) : (s.setBc v).h = s.h := rfl
@[simp] theorem setBc_l (v : Word) : (s.setBc v).l = s.l := rfl
@[simp] theorem setBc_flags (v : Word) : (s.setBc v).flags = s.flags := rfl
@[simp] theorem setBc_sp (v : Word) : (s.setBc v).sp = s.sp := rfl
@[simp] theorem setBc_pc (v : Word) : (s.setBc v).pc = s.pc := rfl
@[simp] theorem setBc_ime (v : Word) : (s.setBc v).ime = s.ime := rfl
@[simp] theorem setBc_halted (v : Word) : (s.setBc v).halted = s.halted := rfl
@[simp] theorem setBc_ctr (v : Word) : (s.setBc v).ctr = s.ctr := rfl
@[simp] theorem setBc_mem (v : Word) : (s.setBc v).mem = s.mem := rfl
@[simp] theorem setBc_events (v : Word) : (s.setBc v).events = s.events := rfl
@[simp] theorem setBc_policy (v : Word) : (s.setBc v).policy = s.policy := rfl

/-! ### setDe -/

@[simp] theorem setDe_a (v : Word) : (s.setDe v).a = s.a := rfl
@[simp] theorem setDe_b (v : Word) : (s.setDe v).b = s.b := rfl
@[simp] theorem setDe_c (v : Word) : (s.setDe v).c = s.c := rfl
@[simp] theorem setDe_d (v : Word) : (s.setDe v).d = hiByte v := rfl
@[simp] theorem setDe_e (v : Word) : (s.setDe v).e = loByte v := rfl
@[simp] theorem setDe_h (v : Word) : (s.setDe v).h = s.h := rfl
@[simp] theorem setDe_l (v : Word) : (s.setDe v).l = s.l := rfl
@[simp] theorem setDe_flags (v : Word) : (s.setDe v).flags = s.flags := rfl
@[simp] theorem setDe_sp (v : Word) : (s.setDe v).sp = s.sp := rfl
@[simp] theorem setDe_pc (v : Word) : (s.setDe v).pc = s.pc := rfl
@[simp] theorem setDe_ime (v : Word) : (s.setDe v).ime = s.ime := rfl
@[simp] theorem setDe_halted (v : Word) : (s.setDe v).halted = s.halted := rfl
@[simp] theorem setDe_ctr (v : Word) : (s.setDe v).ctr = s.ctr := rfl
@[simp] theorem setDe_mem (v : Word) : (s.setDe v).mem = s.mem := rfl
@[simp] theorem setDe_events (v : Word) : (s.setDe v).events = s.events := rfl
@[simp] theorem setDe_policy (v : Word) : (s.setDe v).policy = s.policy := rfl

/-! ### setHl -/

@[simp] theorem setHl_a (v : Word) : (s.setHl v).a = s.a := rfl
@[simp] theorem setHl_b (v : Word) : (s.setHl v).b = s.b := rfl
@[simp] theorem setHl_c (v : Word) : (s.setHl v).c = s.c := rfl
@[simp] theorem setHl_d (v : Word) : (s.setHl v).d = s.d := rfl
@[simp] theorem setHl_e (v : Word) : (s.setHl v).e = s.e := rfl
@[simp] theorem setHl_h (v : Word) : (s.setHl v).h = hiByte v := rfl
@[simp] theorem setHl_l (v : Word) : (s.setHl v).l = loByte v := rfl
@[simp] theorem setHl_flags (v : Word) : (s.setHl v).flags = s.flags := rfl
@[simp] theorem setHl_sp (v : Word) : (s.setHl v).sp = s.sp := rfl
@[simp] theorem setHl_pc (v : Word) : (s.setHl v).pc = s.pc := rfl
@[simp] theorem setHl_ime (v : Word) : (s.setHl v).ime = s.ime := rfl
@[simp] theorem setHl_halted (v : Word) : (s.setHl v).halted = s.halted := rfl
@[simp] theorem setHl_ctr (v : Word) : (s.setHl v).ctr = s.ctr := rfl
@[simp] theorem setHl_mem (v : Word) : (s.setHl v).mem = s.mem := rfl
@[simp] theorem setHl_events (v : Word) : (s.setHl v).events = s.events := rfl
@[simp] theorem setHl_policy (v : Word) : (s.setHl v).policy = s.policy := rfl

/-! ### setAf -/

@[simp] theorem setAf_a (v : Word) : (s.setAf v).a = hiByte v := rfl
@[simp] theorem setAf_b (v : Word) : (s.setAf v).b = s.b := rfl
@[simp] theorem setAf_c (v : Word) : (s.setAf v).c = s.c := rfl
@[simp] theorem setAf_d (v : Word) : (s.setAf v).d = s.d := rfl
@[simp] theorem setAf_e (v : Word) : (s.setAf v).e = s.e := rfl
@[simp] theorem setAf_h (v : Word) : (s.setAf v).h = s.h := rfl
@[simp] theorem setAf_l (v : Word) : (s.setAf v).l = s.l := rfl
@[simp] theorem setAf_flags (v : Word) : (s.setAf v).flags = Flags.ofByte (loByte v) := rfl
@[simp] theorem setAf_sp (v : Word) : (s.setAf v).sp = s.sp := rfl
@[simp] theorem setAf_pc (v : Word) : (s.setAf v).pc = s.pc := rfl
@[simp] theorem setAf_ime (v : Word) : (s.setAf v).ime = s.ime := rfl
@[simp] theorem setAf_halted (v : Word) : (s.setAf v).halted = s.halted := rfl
@[simp] theorem setAf_ctr (v : Word) : (s.setAf v).ctr = s.ctr := rfl
@[simp] theorem setAf_mem (v : Word) : (s.setAf v).mem = s.mem := rfl
@[simp] theorem setAf_events (v : Word) : (s.setAf v).events = s.events := rfl
@[simp] theorem setAf_policy (v : Word) : (s.setAf v).policy = s.policy := rfl

/-! ### setReg -/

@[simp] theorem setReg_a (r : Reg8) (v : Byte) : (s.setReg r v).a = if r = .A then v else s.a := by cases r <;> rfl
@[simp] theorem setReg_b (r : Reg8) (v : Byte) : (s.setReg r v).b = if r = .B then v else s.b := by cases r <;> rfl
@[simp] theorem setReg_c (r : Reg8) (v : Byte) : (s.setReg r v).c = if r = .C then v else s.c := by cases r <;> rfl
@[simp] theorem setReg_d (r : Reg8) (v : Byte) : (s.setReg r v).d = if r = .D then v else s.d := by cases r <;> rfl
@[simp] theorem setReg_e (r : Reg8) (v : Byte) : (s.setReg r v).e = if r = .E then v else s.e := by cases r <;> rfl
@[simp] theorem setReg_h (r : Reg8) (v : Byte) : (s.setReg r v).h = if r = .H then v else s.h := by cases r <;> rfl
@[simp] theorem setReg_l (r : Reg8) (v : Byte) : (s.setReg r v).l = if r = .L then v else s.l := by cases r <;> rfl
@[simp] theorem setReg_flags (r : Reg8) (v : Byte) : (s.setReg r v).flags = s.flags := by cases r <;> rfl
@[simp] theorem setReg_sp (r : Reg8) (v : Byte) : (s.setReg r v).sp = s.sp := by cases r <;> rfl
@[simp] theorem setReg_pc (r : Reg8) (v : Byte) : (s.setReg r v).pc = s.pc := by cases r <;> rfl
@[simp] theorem setReg_ime (r : Reg8) (v : Byte) : (s.setReg r v).ime = s.ime := by cases r <;> rfl
@[simp] theorem setReg_halted (r : Reg8) (v : Byte) : (s.setReg r v).halted = s.halted := by cases r <;> rfl
@[simp] theorem setReg_ctr (r : Reg8) (v : Byte) : (s.setReg r v).ctr = s.ctr := by cases r <;> rfl
@[simp] theorem setReg_mem (r : Reg8) (v : Byte) : (s.setReg r v).mem = s.mem := by cases r <;> rfl
@[simp] theorem setReg_events (r : Reg8) (v : Byte) : (s.setReg r v).events = s.events := by cases r <;> rfl
@[simp] theorem setReg_policy (r : Reg8) (v : Byte) : (s.setReg r v).policy = s.policy := by cases r <;> rfl

@[simp] theorem reg_setReg_same (r : Reg8) (v : Byte) : (s.setReg r v).reg r = v := by cases r <;> rfl
theorem reg_setReg_other {r q : Reg8} (h : q ≠ r) (v : Byte) : (s.setReg r v).reg q = s.reg q := by
  cases r <;> cases q <;> first | rfl | exact absurd rfl h

/-! ### setPair and setStackPair, outside the registers they write -/

@[simp] theorem setPair_pc (p : Pair) (v : Word) : (s.setPair p v).pc = s.pc := by cases p <;> rfl
@[simp] theorem setPair_ime (p : Pair) (v : Word) : (s.setPair p v).ime = s.ime := by cases p <;> rfl
@[simp] theorem setPair_halted (p : Pair) (v : Word) : (s.setPair p v).halted = s.halted := by cases p <;> rfl
@[simp] theorem setPair_ctr (p : Pair) (v : Word) : (s.setPair p v).ctr = s.ctr := by cases p <;> rfl
@[simp] theorem setPair_mem (p : Pair) (v : Word) : (s.setPair p v).mem = s.mem := by cases p <;> rfl
@[simp] theorem setPair_events (p : Pair) (v : Word) : (s.setPair p v).events = s.events := by cases p <;> rfl
@[simp] theorem setPair_policy (p : Pair) (v : Word) : (s.setPair p v).policy = s.policy := by cases p <;> rfl
@[simp] theorem setStackPair_pc (p : StackPair) (v : Word) : (s.setStackPair p v).pc = s.pc := by cases p <;> rfl
@[simp] theorem setStackPair_ime (p : StackPair) (v : Word) : (s.setStackPair p v).ime = s.ime := by cases p <;> rfl
@[simp] theorem setStackPair_halted (p : StackPair) (v : Word) : (s.setStackPair p v).halted = s.halted := by cases p <;> rfl
@[simp] theorem setStackPair_ctr (p : StackPair) (v : Word) : (s.setStackPair p v).ctr = s.ctr := by cases p <;> rfl
@[simp] theorem setStackPair_mem (p : StackPair) (v : Word) : (s.setStackPair p v).mem = s.mem := by cases p <;> rfl
@[simp] theorem setStackPair_events (p : StackPair) (v : Word) : (s.setStackPair p v).events = s.events := by cases p <;> rfl
@[simp] theorem setStackPair_policy (p : StackPair) (v : Word) : (s.setStackPair p v).policy = s.policy := by cases p <;> rfl
@[simp] theorem setPair_flags (p : Pair) (v : Word) : (s.setPair p v).flags = s.flags := by cases p <;> rfl
@[simp] theorem setPair_a (p : Pair) (v : Word) : (s.setPair p v).a = s.a := by cases p <;> rfl
@[simp] theorem setStackPair_sp (p : StackPair) (v : Word) : (s.setStackPair p v).sp = s.sp := by cases p <;> rfl

/-! ### Registers, pairs and memory bytes are views of the fields -/

@[simp] theorem reg_setPc (v : Word) (r : Reg8) : (s.setPc v).reg r = s.reg r := by cases r <;> rfl
@[simp] theorem bc_setPc (v : Word) : (s.setPc v).bc = s.bc := rfl
@[simp] theorem de_setPc (v : Word) : (s.setPc v).de = s.de := rfl
@[simp] theorem hl_setPc (v : Word) : (s.setPc v).hl = s.hl := rfl
@[simp] theorem peek_setPc (v : Word) (q : Word) : (s.setPc v).peek q = s.peek q := rfl
@[simp] theorem reg_setSp (v : Word) (r : Reg8) : (s.setSp v).reg r = s.reg r := by cases r <;> rfl
@[simp] theorem bc_setSp (v : Word) : (s.setSp v).bc = s.bc := rfl
@[simp] theorem de_setSp (v : Word) : (s.setSp v).de = s.de := rfl
@[simp] theorem hl_setSp (v : Word) : (s.setSp v).hl = s.hl := rfl
@[simp] theorem peek_setSp (v : Word) (q : Word) : (s.setSp v).peek q = s.peek q := rfl
@[simp] theorem reg_setFlags (f : Flags) (r : Reg8) : (s.setFlags f).reg r = s.reg r := by cases r <;> rfl
@[simp] theorem bc_setFlags (f : Flags) : (s.setFlags f).bc = s.bc := rfl
@[simp] theorem de_setFlags (f : Flags) : (s.setFlags f).de = s.de := rfl
@[simp] theorem hl_setFlags (f : Flags) : (s.setFlags f).hl = s.hl := rfl
@[simp] theorem peek_setFlags (f : Flags) (q : Word) : (s.setFlags f).peek q = s.peek q := rfl
@[simp] theorem reg_setIme (i : Ime) (r : Reg8) : (s.setIme i).reg r = s.reg r := by cases r <;> rfl
@[simp] theorem bc_setIme (i : Ime) : (s.setIme i).bc = s.bc := rfl
@[simp] theorem de_setIme (i : Ime) : (s.setIme i).de = s.de := rfl
@[simp] theorem hl_setIme (i : Ime) : (s.setIme i).hl = s.hl := rfl
@[simp] theorem peek_setIme (i : Ime) (q : Word) : (s.setIme i).peek q = s.peek q := rfl
@[simp] theorem reg_setHalted (x : Bool) (r : Reg8) : (s.setHalted x).reg r = s.reg r := by cases r <;> rfl
@[simp] theorem bc_setHalted (x : Bool) : (s.setHalted x).bc = s.bc := rfl
@[simp] theorem de_setHalted (x : Bool) : (s.setHalted x).de = s.de := rfl
@[simp] theorem hl_setHalted (x : Bool) : (s.setHalted x).hl = s.hl := rfl
@[simp] theorem peek_setHalted (x : Bool) (q : Word) : (s.setHalted x).peek q = s.peek q := rfl
@[simp] theorem reg_setCtr (v : Word) (r : Reg8) : (s.setCtr v).reg r = s.reg r := by cases r <;> rfl
@[simp] theorem bc_setCtr (v : Word) : (s.setCtr v).bc = s.bc := rfl
@[simp] theorem de_setCtr (v : Word) : (s.setCtr v).de = s.de := rfl
@[simp] theorem hl_setCtr (v : Word) : (s.setCtr v).hl = s.hl := rfl
@[simp] theorem peek_setCtr (v : Word) (q : Word) : (s.setCtr v).peek q = s.peek q := rfl
@[simp] theorem reg_setMem (m : Memory) (r : Reg8) : (s.setMem m).reg r = s.reg r := by cases r <;> rfl
@[simp] theorem bc_setMem (m : Memory) : (s.setMem m).bc = s.bc := rfl
@[simp] theorem de_setMem (m : Memory) : (s.setMem m).de = s.de := rfl
@[simp] theorem hl_setMem (m : Memory) : (s.setMem m).hl = s.hl := rfl
@[simp] theorem reg_advance (n : Word) (r : Reg8) : (s.advance n).reg r = s.reg r := by cases r <;> rfl
@[simp] theorem bc_advance (n : Word) : (s.advance n).bc = s.bc := rfl
@[simp] theorem de_advance (n : Word) : (s.advance n).de = s.de := rfl
@[simp] theorem hl_advance (n : Word) : (s.advance n).hl = s.hl := rfl
@[simp] theorem peek_advance (n : Word) (q : Word) : (s.advance n).peek q = s.peek q := rfl
@[simp] theorem reg_emit (x : Diagnostic) (r : Reg8) : (s.emit x).reg r = s.reg r := by cases r <;> rfl
@[simp] theorem bc_emit (x : Diagnostic) : (s.emit x).bc = s.bc := rfl
@[simp] theorem de_emit (x : Diagnostic) : (s.emit x).de = s.de := rfl
@[simp] theorem hl_emit (x : Diagnostic) : (s.emit x).hl = s.hl := rfl
@[simp] theorem peek_emit (x : Diagnostic) (q : Word) : (s.emit x).peek q = s.peek q := rfl
@[simp] theorem reg_clearEvents (r : Reg8) : (s.clearEvents).reg r = s.reg r := by cases r <;> rfl
@[simp] theorem bc_clearEvents : (s.clearEvents).bc = s.bc := rfl
@[simp] theorem de_clearEvents : (s.clearEvents).de = s.de := rfl
@[simp] theorem hl_clearEvents : (s.clearEvents).hl = s.hl := rfl
@[simp] theorem peek_clearEvents (q : Word) : (s.clearEvents).peek q = s.peek q := rfl
@[simp] theorem reg_poke (p : Word) (v : Byte) (r : Reg8) : (s.poke p v).reg r = s.reg r := by cases r <;> rfl
@[simp] theorem bc_poke (p : Word) (v : Byte) : (s.poke p v).bc = s.bc := rfl
@[simp] theorem de_poke (p : Word) (v : Byte) : (s.poke p v).de = s.de := rfl
@[simp] theorem hl_poke (p : Word) (v : Byte) : (s.poke p v).hl = s.hl := rfl
@[simp] theorem peek_setBc (v : Word) (q : Word) : (s.setBc v).peek q = s.peek q := rfl
@[simp] theorem peek_setDe (v : Word) (q : Word) : (s.setDe v).peek q = s.peek q := rfl
@[simp] theorem peek_setHl (v : Word) (q : Word) : (s.setHl v).peek q = s.peek q := rfl
@[simp] theorem peek_setAf (v : Word) (q : Word) : (s.setAf v).peek q = s.peek q := rfl
@[simp] theorem peek_setReg (r : Reg8) (v : Byte) (q : Word) : (s.setReg r v).peek q = s.peek q := by cases r <;> rfl
@[simp] theorem peek_setPair (p : Pair) (v q : Word) : (s.setPair p v).peek q = s.peek q := by cases p <;> rfl
@[simp] theorem peek_setStackPair (p : StackPair) (v q : Word) : (s.setStackPair p v).peek q = s.peek q := by
  cases p <;> rfl

end Sys2Proof.Machine.State
end

