-- ==== Sys2Proof/Laws/Memory.lean ====
section
/-! SUPPORT. The laws of memory: a read after a write, the canonical form under every operation, and the DMA
copy. -/

namespace Sys2Proof.Machine

namespace Memory

theorem read_insert_same (m : Memory) (a : Nat) (v : Byte) : (m.insert a v).read a = v := by
  induction m with
  | nil => simp [insert, read]
  | cons c m ih =>
    obtain ⟨b, w⟩ := c
    simp only [insert]
    split
    · simp [read]
    · split
      · simp [read]
      · simp [read, *]

theorem read_insert_other (m : Memory) {a b : Nat} (h : b ≠ a) (v : Byte) :
    (m.insert a v).read b = m.read b := by
  induction m with
  | nil => simp [insert, read, h]
  | cons c m ih =>
    obtain ⟨k, w⟩ := c
    simp only [insert]
    split
    · simp [read, h]
    · split
      · next hk => subst hk; simp [read, h]
      · simp [read, ih]

theorem read_erase_same (m : Memory) (a : Nat) : (m.erase a).read a = unlisted a := by
  induction m with
  | nil => rfl
  | cons c m ih =>
    obtain ⟨k, w⟩ := c
    by_cases hk : k = a
    · simpa [erase, hk] using ih
    · have hk' : a ≠ k := Ne.symm hk
      simpa [erase, hk, read, hk'] using ih

theorem read_erase_other (m : Memory) {a b : Nat} (h : b ≠ a) : (m.erase a).read b = m.read b := by
  induction m with
  | nil => rfl
  | cons c m ih =>
    obtain ⟨k, w⟩ := c
    by_cases hk : k = a
    · subst hk
      simpa [erase, read, h] using ih
    · simp only [erase, bne_iff_ne, ne_eq, hk, not_false_eq_true, List.filter_cons_of_pos, read] at ih ⊢
      rw [ih]

/-- A read after a write to the same address gives the value written. -/
@[simp] theorem read_write_same (m : Memory) (a : Nat) (v : Byte) : (m.write a v).read a = v := by
  unfold write
  split
  · next h => rw [read_erase_same, h]
  · exact read_insert_same m a v

/-- A write leaves every other address alone. -/
theorem read_write_other (m : Memory) {a b : Nat} (h : b ≠ a) (v : Byte) : (m.write a v).read b = m.read b := by
  unfold write
  split
  · exact read_erase_other m h
  · exact read_insert_other m h v

theorem read_write (m : Memory) (a b : Nat) (v : Byte) :
    (m.write a v).read b = if b = a then v else m.read b := by
  split
  · next h => rw [h, read_write_same]
  · next h => exact read_write_other m h v

/-! ### The canonical form -/

theorem wfFrom_mono {lo lo' : Nat} (h : lo' ≤ lo) {m : Memory} (hm : wfFrom lo m = true) : wfFrom lo' m = true := by
  cases m with
  | nil => rfl
  | cons c m =>
    obtain ⟨b, w⟩ := c
    simp only [wfFrom, Bool.and_eq_true, decide_eq_true_eq] at hm ⊢
    exact ⟨⟨⟨h.trans hm.1.1.1, hm.1.1.2⟩, hm.1.2⟩, hm.2⟩

theorem wfFrom_insert {m : Memory} {lo a : Nat} {v : Byte} (hlo : lo ≤ a) (ha : a < 0x10000) (hv : v ≠ unlisted a)
    (hm : wfFrom lo m = true) : wfFrom lo (m.insert a v) = true := by
  induction m generalizing lo with
  | nil => simp [insert, wfFrom, hlo, ha, hv]
  | cons c m ih =>
    obtain ⟨b, w⟩ := c
    have hm' := hm
    simp only [wfFrom, Bool.and_eq_true, decide_eq_true_eq, bne_iff_ne, ne_eq] at hm
    obtain ⟨⟨⟨h1, h2⟩, h3⟩, h4⟩ := hm
    simp only [insert]
    split
    · next hab =>
      have : wfFrom (a + 1) ((b, w) :: m) = true := by
        simp [wfFrom, h2, h3, h4]
        omega
      simp only [wfFrom, Bool.and_eq_true, decide_eq_true_eq, bne_iff_ne, ne_eq] at this ⊢
      exact ⟨⟨⟨hlo, ha⟩, hv⟩, this⟩
    · split
      · next hab =>
        subst hab
        simp [wfFrom, hlo, ha, hv, h4]
      · next hlt hne =>
        have := ih (lo := b + 1) (by omega) h4
        simp [wfFrom, h1, h2, h3, this]

theorem wfFrom_erase {m : Memory} {lo a : Nat} (hm : wfFrom lo m = true) : wfFrom lo (m.erase a) = true := by
  induction m generalizing lo with
  | nil => rfl
  | cons c m ih =>
    obtain ⟨b, w⟩ := c
    simp only [wfFrom, Bool.and_eq_true, decide_eq_true_eq, bne_iff_ne, ne_eq] at hm
    obtain ⟨⟨⟨h1, h2⟩, h3⟩, h4⟩ := hm
    by_cases hb : b = a
    · have := wfFrom_mono (lo' := lo) (by omega) (ih h4)
      simpa [erase, hb] using this
    · have := ih h4
      simp only [erase] at this
      simp [erase, hb, wfFrom, h1, h2, h3, this]

/-- A write keeps the canonical form. -/
theorem wf_write {m : Memory} {a : Nat} (v : Byte) (ha : a < 0x10000) (hm : m.wf = true) : (m.write a v).wf = true := by
  unfold write
  split
  · exact wfFrom_erase hm
  · next hv => exact wfFrom_insert (Nat.zero_le _) ha hv hm

/-- The DMA copy keeps the canonical form. -/
theorem wf_dmaCopy {m : Memory} (source n : Nat) (hn : n ≤ Addr.oamBytes) (hm : m.wf = true) :
    (m.dmaCopy source n).wf = true := by
  induction n with
  | zero => exact hm
  | succ n ih =>
    simp only [dmaCopy]
    have hn' : n + 1 ≤ 0xA0 := hn
    refine wf_write _ ?_ (ih (by omega))
    simp only [Addr.oam]
    omega

/-- The copy changes OAM only, and only its first `n` bytes. -/
theorem read_dmaCopy_outside (m : Memory) (source n : Nat) {b : Nat} (h : b < Addr.oam ∨ Addr.oam + n ≤ b) :
    (m.dmaCopy source n).read b = m.read b := by
  induction n with
  | zero => rfl
  | succ n ih =>
    simp only [dmaCopy]
    rw [read_write_other _ (by simp only [Addr.oam] at h ⊢; omega), ih (by omega)]

/-- The copy moves a page that does not meet OAM, or OAM itself, byte for byte. -/
theorem read_dmaCopy_inside (m : Memory) (source : Nat)
    (hs : source + Addr.oamBytes ≤ Addr.oam ∨ Addr.oam + Addr.oamBytes ≤ source ∨ source = Addr.oam)
    (n : Nat) (hn : n ≤ Addr.oamBytes) (k : Nat) (hk : k < n) :
    (m.dmaCopy source n).read (Addr.oam + k) = m.read (source + k) := by
  simp only [Addr.oam, Addr.oamBytes] at hs hn ⊢
  induction n with
  | zero => omega
  | succ n ih =>
    simp only [dmaCopy, Addr.oam]
    by_cases hkn : k = n
    · subst hkn
      rw [read_write_same]
      apply read_dmaCopy_outside
      simp only [Addr.oam]
      omega
    · rw [read_write_other _ (by omega), ih (by omega) (by omega)]

end Memory

namespace State

@[simp] theorem peek_poke_same (s : State) (a : Word) (v : Byte) : (s.poke a v).peek a = v := by
  simp [peek, poke]

theorem peek_poke_other (s : State) {a b : Word} (h : b ≠ a) (v : Byte) : (s.poke a v).peek b = s.peek b := by
  simp only [peek, poke]
  exact Memory.read_write_other _ (fun e => h (BitVec.eq_of_toNat_eq e)) v

theorem peek_poke (s : State) (a b : Word) (v : Byte) :
    (s.poke a v).peek b = if b = a then v else s.peek b := by
  split
  · next h => rw [h, peek_poke_same]
  · next h => exact peek_poke_other s h v

/-- A raw write keeps the canonical form. -/
theorem wf_poke {s : State} (a : Word) (v : Byte) (h : s.mem.wf = true) : (s.poke a v).mem.wf = true :=
  Memory.wf_write v a.isLt h

end State

end Sys2Proof.Machine
end

