-- ==== Sys2Proof/Laws/Bus.lean ====
section
/-! SUPPORT. What a bus write, a push and a pop can do (20_memory R43 to R52, 41_load16_stack R130, R131), said
once. -/

namespace Sys2Proof.Machine

@[simp] theorem andThen_next (s : State) (k : State → Result) : andThen (.next s) k = k s := rfl
@[simp] theorem andThen_fault (f : Fault) (k : State → Result) : andThen (.fault f) k = .fault f := rfl
@[simp] theorem andThen_refused (r : Refusal) (k : State → Result) : andThen (.refused r) k = .refused r := rfl

/-- A sequence answers a next state exactly where both halves do. -/
theorem andThen_eq_next {o : Result} {k : State → Result} {t : State} :
    andThen o k = .next t ↔ ∃ s, o = .next s ∧ k s = .next t := by
  cases o <;> simp

theorem next_inj {s t : State} : (Host.Outcome.next s : Result) = .next t ↔ s = t := by
  constructor
  · intro h; cases h; rfl
  · rintro rfl; rfl

/-! ### The bus write -/

theorem regionOf_unusable_iff (a : Word) :
    regionOf a = .unusable ↔ 0xFEA0 ≤ a.toNat ∧ a.toNat ≤ 0xFEFF := by
  unfold regionOf
  constructor
  · intro h
    split at h <;> try cases h
    split at h <;> try cases h
    split at h <;> try cases h
    split at h
    · assumption
    · split at h <;> try cases h
      split at h <;> try cases h
      split at h <;> try cases h
      split at h <;> cases h
  · rintro ⟨h1, h2⟩
    rw [if_neg (by omega), if_neg (by omega), if_neg (by omega), if_pos ⟨h1, h2⟩]

theorem regionOf_workRam_iff (a : Word) :
    regionOf a = .workRam ↔ 0xC000 ≤ a.toNat ∧ a.toNat ≤ 0xDDFF := by
  unfold regionOf
  constructor
  · intro h
    split at h <;> try cases h
    split at h
    · assumption
    · split at h <;> try cases h
      split at h <;> try cases h
      split at h <;> try cases h
      split at h <;> try cases h
      split at h <;> try cases h
      split at h <;> try cases h
  · rintro ⟨h1, h2⟩
    rw [if_neg (by omega), if_pos ⟨h1, h2⟩]

theorem regionOf_echoRam_iff (a : Word) :
    regionOf a = .echoRam ↔ 0xE000 ≤ a.toNat ∧ a.toNat ≤ 0xFDFF := by
  unfold regionOf
  constructor
  · intro h
    split at h <;> try cases h
    split at h <;> try cases h
    split at h
    · assumption
    · split at h <;> try cases h
      split at h <;> try cases h
      split at h <;> try cases h
      split at h <;> try cases h
      split at h <;> try cases h
  · rintro ⟨h1, h2⟩
    rw [if_neg (by omega), if_neg (by omega), if_pos ⟨h1, h2⟩]

theorem regionOf_div_iff (a : Word) : regionOf a = .div ↔ a = Addr.div := by
  constructor
  · intro h
    unfold regionOf at h
    split at h <;> try cases h
    split at h <;> try cases h
    split at h <;> try cases h
    split at h <;> try cases h
    split at h <;> try cases h
    split at h
    · assumption
    · split at h <;> try cases h
      split at h <;> cases h
  · rintro rfl
    decide

theorem busWrite_of_mayStore {a : Word} (v : Byte) {s : State} (h : s.mayStore a) :
    busWrite a v s = .next (busEffect a v s) := by
  unfold busWrite
  rw [if_neg]
  rintro ⟨hr, hp⟩
  rw [regionOf_unusable_iff] at hr
  rcases h with h | h
  · rw [h] at hp; cases hp
  · exact h hr

/-- Everything a bus write can answer: the effect, or the strict policy's fault in the unusable region. -/
theorem busWrite_cases (a : Word) (v : Byte) (s : State) :
    busWrite a v s = .next (busEffect a v s) ∨
    (busWrite a v s = .fault (.unusableWrite a v) ∧ regionOf a = .unusable ∧ s.policy.unusableWrite = .strict) := by
  unfold busWrite
  split
  · next h => exact .inr ⟨rfl, h⟩
  · exact .inl rfl

theorem busWrite_next {a : Word} {v : Byte} {s t : State} (h : busWrite a v s = .next t) : t = busEffect a v s := by
  rcases busWrite_cases a v s with h' | ⟨h', -⟩
  · rw [h'] at h; cases h; rfl
  · rw [h'] at h; cases h

section Fields

variable (p : Word) (v : Byte) (s : State)

@[simp] theorem busEffect_a : (busEffect p v s).a = s.a := by unfold busEffect; split <;> simp [dmaTransfer]
@[simp] theorem busEffect_b : (busEffect p v s).b = s.b := by unfold busEffect; split <;> simp [dmaTransfer]
@[simp] theorem busEffect_c : (busEffect p v s).c = s.c := by unfold busEffect; split <;> simp [dmaTransfer]
@[simp] theorem busEffect_d : (busEffect p v s).d = s.d := by unfold busEffect; split <;> simp [dmaTransfer]
@[simp] theorem busEffect_e : (busEffect p v s).e = s.e := by unfold busEffect; split <;> simp [dmaTransfer]
@[simp] theorem busEffect_h : (busEffect p v s).h = s.h := by unfold busEffect; split <;> simp [dmaTransfer]
@[simp] theorem busEffect_l : (busEffect p v s).l = s.l := by unfold busEffect; split <;> simp [dmaTransfer]
@[simp] theorem busEffect_flags : (busEffect p v s).flags = s.flags := by unfold busEffect; split <;> simp [dmaTransfer]
@[simp] theorem busEffect_sp : (busEffect p v s).sp = s.sp := by unfold busEffect; split <;> simp [dmaTransfer]
@[simp] theorem busEffect_pc : (busEffect p v s).pc = s.pc := by unfold busEffect; split <;> simp [dmaTransfer]
@[simp] theorem busEffect_ime : (busEffect p v s).ime = s.ime := by unfold busEffect; split <;> simp [dmaTransfer]
@[simp] theorem busEffect_halted : (busEffect p v s).halted = s.halted := by unfold busEffect; split <;> simp [dmaTransfer]
@[simp] theorem busEffect_policy : (busEffect p v s).policy = s.policy := by unfold busEffect; split <;> simp [dmaTransfer]
@[simp] theorem busEffect_reg (r : Reg8) : (busEffect p v s).reg r = s.reg r := by cases r <;> simp [State.reg]
@[simp] theorem busEffect_hl : (busEffect p v s).hl = s.hl := by simp [State.hl]

theorem busEffect_ctr : (busEffect p v s).ctr = if regionOf p = .div then 0 else s.ctr := by
  unfold busEffect
  split <;> rename_i h <;> simp [h, dmaTransfer]

theorem busEffect_events :
    (busEffect p v s).events = if regionOf p = .unusable then s.events ++ [.unusableWrite p v] else s.events := by
  unfold busEffect
  split <;> rename_i h <;> simp [h, dmaTransfer]

/-- A bus write leaves every byte alone that it does not touch. -/
theorem busEffect_peek_other {x : Word} (h : touches p x = false) : (busEffect p v s).peek x = s.peek x := by
  unfold touches at h
  unfold busEffect
  split <;> rename_i hr <;> simp only [hr] at h
  · rfl
  · simp only [Bool.or_eq_false_iff, beq_eq_false_iff_ne, ne_eq] at h
    rw [State.peek_poke_other _ h.2, State.peek_poke_other _ h.1]
  · simp only [Bool.or_eq_false_iff, beq_eq_false_iff_ne, ne_eq] at h
    rw [State.peek_poke_other _ h.2, State.peek_poke_other _ h.1]
  · rfl
  · simp only [beq_eq_false_iff_ne, ne_eq] at h
    rw [State.peek_poke_other _ h]
  · simp only [beq_eq_false_iff_ne, ne_eq] at h
    simp only [State.peek_setCtr]
    rw [State.peek_poke_other _ h]
  · simp only [beq_eq_false_iff_ne, ne_eq] at h
    rw [State.peek_poke_other _ h]
  · simp only [Bool.or_eq_false_iff, beq_eq_false_iff_ne, ne_eq, decide_eq_false_iff_not] at h
    rw [← State.peek_poke_other s h.1 v]
    simp only [dmaTransfer, State.peek, State.setMem_mem]
    apply Memory.read_dmaCopy_outside
    simp only [Addr.oam, Addr.oamBytes]
    omega
  · simp only [beq_eq_false_iff_ne, ne_eq] at h
    rw [State.peek_poke_other _ h]

/-- A bus write keeps the canonical form of memory. -/
theorem busEffect_wf (h : s.mem.wf = true) : (busEffect p v s).mem.wf = true := by
  unfold busEffect
  split
  · exact h
  · exact State.wf_poke _ _ (State.wf_poke _ _ h)
  · exact State.wf_poke _ _ (State.wf_poke _ _ h)
  · exact h
  · exact State.wf_poke _ _ h
  · exact State.wf_poke _ _ h
  · exact State.wf_poke _ _ h
  · simp only [dmaTransfer, State.setMem_mem]
    exact Memory.wf_dmaCopy _ _ le_rfl (State.wf_poke _ _ h)
  · exact State.wf_poke _ _ h

end Fields

/-! ### The stack -/

/-- The state after a push that is no fault (R130). -/
def pushed (v : Word) (s : State) : State :=
  (busEffect (s.sp - 2) (loByte v) (busEffect (s.sp - 1) (hiByte v) s)).setSp (s.sp - 2)

theorem mayStore_busEffect {s : State} {a : Word} (p : Word) (v : Byte) (h : s.mayStore a) :
    (busEffect p v s).mayStore a := by
  unfold State.mayStore at h ⊢
  rwa [busEffect_policy]

theorem push16_of_mayStore (v : Word) {s : State} (h1 : s.mayStore (s.sp - 1)) (h2 : s.mayStore (s.sp - 2)) :
    push16 v s = .next (pushed v s) := by
  unfold push16
  rw [busWrite_of_mayStore _ h1, andThen_next, busWrite_of_mayStore _ (mayStore_busEffect _ _ h2), andThen_next]
  rfl

/-- Where a push answers a next state, it is the pushed one. -/
theorem push16_next {v : Word} {s t : State} (h : push16 v s = .next t) : t = pushed v s := by
  unfold push16 at h
  obtain ⟨s1, h1, h⟩ := andThen_eq_next.1 h
  obtain ⟨s2, h2, h⟩ := andThen_eq_next.1 h
  cases busWrite_next h1
  cases busWrite_next h2
  cases h
  rfl

end Sys2Proof.Machine
end

