-- ==== Sys2Proof/Laws/Effects.lean ====
section
/-! SUPPORT. What each family stores to and writes: the four tables of Machine/Effects.lean, said once per selector
and per single row. -/

namespace Sys2Proof.Machine

/-- The store to an operand location. -/
def storesAt (s : State) : Loc8 → List Word
  | .reg _ => []
  | .atHL => [s.hl]

/-- The register an operand location is. -/
def locRegisters : Loc8 → List Reg8
  | .reg r => [r]
  | .atHL => []

/-- The halves of a register pair. -/
def pairRegisters : Pair → List Reg8
  | .BC => [.B, .C]
  | .DE => [.D, .E]
  | .HL => [.H, .L]
  | .SP => []

/-- The registers of a stack pair; F is the flags. -/
def stackPairRegisters : StackPair → List Reg8
  | .BC => [.B, .C]
  | .DE => [.D, .E]
  | .HL => [.H, .L]
  | .AF => [.A]

/-- The registers that an operation on A writes. -/
def aluRegisters : AluOp → List Reg8
  | .cp => []
  | _ => [.A]

end Sys2Proof.Machine

namespace Sys2Proof.Instr

open Sys2Proof.Machine

variable (s : State)

/-! ### storeAddresses -/

@[simp] theorem storeAddresses_ldRegReg (d : Reg8) (r : Reg8) : (Instr.ldRegReg d r).storeAddresses s = [] := by
  cases d <;> cases r <;> rfl
@[simp] theorem storeAddresses_ldRegImm (d : Reg8) (v : Byte) : (Instr.ldRegImm d v).storeAddresses s = [] := by
  cases d <;> rfl
@[simp] theorem storeAddresses_ldRegHL (d : Reg8) : (Instr.ldRegHL d).storeAddresses s = [] := by
  cases d <;> rfl
@[simp] theorem storeAddresses_ldHLReg (r : Reg8) : (Instr.ldHLReg r).storeAddresses s = [s.hl] := by
  cases r <;> rfl
@[simp] theorem storeAddresses_ldPairImm (p : Pair) (v : Word) : (Instr.ldPairImm p v).storeAddresses s = [] := by
  cases p <;> rfl
@[simp] theorem storeAddresses_pushRow (p : StackPair) : (Instr.pushRow p).storeAddresses s = [s.sp - 1, s.sp - 2] := by
  cases p <;> rfl
@[simp] theorem storeAddresses_popRow (p : StackPair) : (Instr.popRow p).storeAddresses s = [] := by
  cases p <;> rfl
@[simp] theorem storeAddresses_aluLoc (op : AluOp) (x : Loc8) : (Instr.aluLoc op x).storeAddresses s = [] := by
  rcases x with r | _
  · cases r <;> cases op <;> rfl
  · cases op <;> rfl
@[simp] theorem storeAddresses_aluImm (op : AluOp) (v : Byte) : (Instr.aluImm op v).storeAddresses s = [] := by
  cases op <;> rfl
@[simp] theorem storeAddresses_incLoc (x : Loc8) : (Instr.incLoc x).storeAddresses s = storesAt s x := by
  rcases x with r | _
  · cases r <;> rfl
  · rfl
@[simp] theorem storeAddresses_decLoc (x : Loc8) : (Instr.decLoc x).storeAddresses s = storesAt s x := by
  rcases x with r | _
  · cases r <;> rfl
  · rfl
@[simp] theorem storeAddresses_addHLPair (p : Pair) : (Instr.addHLPair p).storeAddresses s = [] := by
  cases p <;> rfl
@[simp] theorem storeAddresses_incPair (p : Pair) : (Instr.incPair p).storeAddresses s = [] := by
  cases p <;> rfl
@[simp] theorem storeAddresses_decPair (p : Pair) : (Instr.decPair p).storeAddresses s = [] := by
  cases p <;> rfl
@[simp] theorem storeAddresses_rotLoc (op : RotOp) (x : Loc8) : (Instr.rotLoc op x).storeAddresses s = storesAt s x := by
  rcases x with r | _
  · cases r <;> cases op <;> rfl
  · cases op <;> rfl
@[simp] theorem storeAddresses_bitLoc (b : BitIdx) (x : Loc8) : (Instr.bitLoc b x).storeAddresses s = [] := by
  rcases x with r | _
  · cases r <;> cases b <;> rfl
  · cases b <;> rfl
@[simp] theorem storeAddresses_resLoc (b : BitIdx) (x : Loc8) : (Instr.resLoc b x).storeAddresses s = storesAt s x := by
  rcases x with r | _
  · cases r <;> cases b <;> rfl
  · cases b <;> rfl
@[simp] theorem storeAddresses_setLoc (b : BitIdx) (x : Loc8) : (Instr.setLoc b x).storeAddresses s = storesAt s x := by
  rcases x with r | _
  · cases r <;> cases b <;> rfl
  · cases b <;> rfl
@[simp] theorem storeAddresses_jpCond (cc : Cond) (v : Word) : (Instr.jpCond cc v).storeAddresses s = [] := by
  cases cc <;> rfl
@[simp] theorem storeAddresses_jrCond (cc : Cond) (v : Byte) : (Instr.jrCond cc v).storeAddresses s = [] := by
  cases cc <;> rfl
@[simp] theorem storeAddresses_callCond (cc : Cond) (v : Word) : (Instr.callCond cc v).storeAddresses s = if s.cond cc then [s.sp - 1, s.sp - 2] else [] := by
  cases cc <;> rfl
@[simp] theorem storeAddresses_retCond (cc : Cond) : (Instr.retCond cc).storeAddresses s = [] := by
  cases cc <;> rfl
@[simp] theorem storeAddresses_rstRow (t : RstTarget) : (Instr.rstRow t).storeAddresses s = [s.sp - 1, s.sp - 2] := by
  cases t <;> rfl
@[simp] theorem storeAddresses_illegalRow (k : IllegalOp) : (Instr.illegalRow k).storeAddresses s = [] := by
  cases k <;> rfl
@[simp] theorem storeAddresses_nop : (Instr.nop).storeAddresses s = [] := rfl
@[simp] theorem storeAddresses_ld_mBC_A : (Instr.ld_mBC_A).storeAddresses s = [s.bc] := rfl
@[simp] theorem storeAddresses_rlca : (Instr.rlca).storeAddresses s = [] := rfl
@[simp] theorem storeAddresses_ld_ma16_SP (a16 : Word) : (Instr.ld_ma16_SP a16).storeAddresses s = [a16, a16 + 1] := rfl
@[simp] theorem storeAddresses_ld_A_mBC : (Instr.ld_A_mBC).storeAddresses s = [] := rfl
@[simp] theorem storeAddresses_rrca : (Instr.rrca).storeAddresses s = [] := rfl
@[simp] theorem storeAddresses_stop (pad : Byte) : (Instr.stop pad).storeAddresses s = [] := rfl
@[simp] theorem storeAddresses_ld_mDE_A : (Instr.ld_mDE_A).storeAddresses s = [s.de] := rfl
@[simp] theorem storeAddresses_rla : (Instr.rla).storeAddresses s = [] := rfl
@[simp] theorem storeAddresses_jr_r8 (r8 : Byte) : (Instr.jr_r8 r8).storeAddresses s = [] := rfl
@[simp] theorem storeAddresses_ld_A_mDE : (Instr.ld_A_mDE).storeAddresses s = [] := rfl
@[simp] theorem storeAddresses_rra : (Instr.rra).storeAddresses s = [] := rfl
@[simp] theorem storeAddresses_ld_mHLi_A : (Instr.ld_mHLi_A).storeAddresses s = [s.hl] := rfl
@[simp] theorem storeAddresses_daa : (Instr.daa).storeAddresses s = [] := rfl
@[simp] theorem storeAddresses_ld_A_mHLi : (Instr.ld_A_mHLi).storeAddresses s = [] := rfl
@[simp] theorem storeAddresses_cpl : (Instr.cpl).storeAddresses s = [] := rfl
@[simp] theorem storeAddresses_ld_mHLd_A : (Instr.ld_mHLd_A).storeAddresses s = [s.hl] := rfl
@[simp] theorem storeAddresses_ld_mHL_d8 (d8 : Byte) : (Instr.ld_mHL_d8 d8).storeAddresses s = [s.hl] := rfl
@[simp] theorem storeAddresses_scf : (Instr.scf).storeAddresses s = [] := rfl
@[simp] theorem storeAddresses_ld_A_mHLd : (Instr.ld_A_mHLd).storeAddresses s = [] := rfl
@[simp] theorem storeAddresses_ccf : (Instr.ccf).storeAddresses s = [] := rfl
@[simp] theorem storeAddresses_halt : (Instr.halt).storeAddresses s = [] := rfl
@[simp] theorem storeAddresses_jp_a16 (a16 : Word) : (Instr.jp_a16 a16).storeAddresses s = [] := rfl
@[simp] theorem storeAddresses_ret : (Instr.ret).storeAddresses s = [] := rfl
@[simp] theorem storeAddresses_prefixCb : (Instr.prefixCb).storeAddresses s = cbStores (s.memRead (s.pc + 1)) s := rfl
@[simp] theorem storeAddresses_call_a16 (a16 : Word) : (Instr.call_a16 a16).storeAddresses s = [s.sp - 1, s.sp - 2] := rfl
@[simp] theorem storeAddresses_reti : (Instr.reti).storeAddresses s = [] := rfl
@[simp] theorem storeAddresses_ldh_ma8_A (a8 : Byte) : (Instr.ldh_ma8_A a8).storeAddresses s = [ioPage a8] := rfl
@[simp] theorem storeAddresses_ld_mC_A : (Instr.ld_mC_A).storeAddresses s = [ioPage s.c] := rfl
@[simp] theorem storeAddresses_add_SP_r8 (r8 : Byte) : (Instr.add_SP_r8 r8).storeAddresses s = [] := rfl
@[simp] theorem storeAddresses_jp_mHL : (Instr.jp_mHL).storeAddresses s = [] := rfl
@[simp] theorem storeAddresses_ld_ma16_A (a16 : Word) : (Instr.ld_ma16_A a16).storeAddresses s = [a16] := rfl
@[simp] theorem storeAddresses_ldh_A_ma8 (a8 : Byte) : (Instr.ldh_A_ma8 a8).storeAddresses s = [] := rfl
@[simp] theorem storeAddresses_ld_A_mC : (Instr.ld_A_mC).storeAddresses s = [] := rfl
@[simp] theorem storeAddresses_di : (Instr.di).storeAddresses s = [] := rfl
@[simp] theorem storeAddresses_ld_HL_SPr8 (r8 : Byte) : (Instr.ld_HL_SPr8 r8).storeAddresses s = [] := rfl
@[simp] theorem storeAddresses_ld_SP_HL : (Instr.ld_SP_HL).storeAddresses s = [] := rfl
@[simp] theorem storeAddresses_ld_A_ma16 (a16 : Word) : (Instr.ld_A_ma16 a16).storeAddresses s = [] := rfl
@[simp] theorem storeAddresses_ei : (Instr.ei).storeAddresses s = [] := rfl

/-! ### registersWritten -/

@[simp] theorem registersWritten_ldRegReg (d : Reg8) (r : Reg8) : (Instr.ldRegReg d r).registersWritten s = [d] := by
  cases d <;> cases r <;> rfl
@[simp] theorem registersWritten_ldRegImm (d : Reg8) (v : Byte) : (Instr.ldRegImm d v).registersWritten s = [d] := by
  cases d <;> rfl
@[simp] theorem registersWritten_ldRegHL (d : Reg8) : (Instr.ldRegHL d).registersWritten s = [d] := by
  cases d <;> rfl
@[simp] theorem registersWritten_ldHLReg (r : Reg8) : (Instr.ldHLReg r).registersWritten s = [] := by
  cases r <;> rfl
@[simp] theorem registersWritten_ldPairImm (p : Pair) (v : Word) : (Instr.ldPairImm p v).registersWritten s = pairRegisters p := by
  cases p <;> rfl
@[simp] theorem registersWritten_pushRow (p : StackPair) : (Instr.pushRow p).registersWritten s = [] := by
  cases p <;> rfl
@[simp] theorem registersWritten_popRow (p : StackPair) : (Instr.popRow p).registersWritten s = stackPairRegisters p := by
  cases p <;> rfl
@[simp] theorem registersWritten_aluLoc (op : AluOp) (x : Loc8) : (Instr.aluLoc op x).registersWritten s = aluRegisters op := by
  rcases x with r | _
  · cases r <;> cases op <;> rfl
  · cases op <;> rfl
@[simp] theorem registersWritten_aluImm (op : AluOp) (v : Byte) : (Instr.aluImm op v).registersWritten s = aluRegisters op := by
  cases op <;> rfl
@[simp] theorem registersWritten_incLoc (x : Loc8) : (Instr.incLoc x).registersWritten s = locRegisters x := by
  rcases x with r | _
  · cases r <;> rfl
  · rfl
@[simp] theorem registersWritten_decLoc (x : Loc8) : (Instr.decLoc x).registersWritten s = locRegisters x := by
  rcases x with r | _
  · cases r <;> rfl
  · rfl
@[simp] theorem registersWritten_addHLPair (p : Pair) : (Instr.addHLPair p).registersWritten s = [.H, .L] := by
  cases p <;> rfl
@[simp] theorem registersWritten_incPair (p : Pair) : (Instr.incPair p).registersWritten s = pairRegisters p := by
  cases p <;> rfl
@[simp] theorem registersWritten_decPair (p : Pair) : (Instr.decPair p).registersWritten s = pairRegisters p := by
  cases p <;> rfl
@[simp] theorem registersWritten_rotLoc (op : RotOp) (x : Loc8) : (Instr.rotLoc op x).registersWritten s = locRegisters x := by
  rcases x with r | _
  · cases r <;> cases op <;> rfl
  · cases op <;> rfl
@[simp] theorem registersWritten_bitLoc (b : BitIdx) (x : Loc8) : (Instr.bitLoc b x).registersWritten s = [] := by
  rcases x with r | _
  · cases r <;> cases b <;> rfl
  · cases b <;> rfl
@[simp] theorem registersWritten_resLoc (b : BitIdx) (x : Loc8) : (Instr.resLoc b x).registersWritten s = locRegisters x := by
  rcases x with r | _
  · cases r <;> cases b <;> rfl
  · cases b <;> rfl
@[simp] theorem registersWritten_setLoc (b : BitIdx) (x : Loc8) : (Instr.setLoc b x).registersWritten s = locRegisters x := by
  rcases x with r | _
  · cases r <;> cases b <;> rfl
  · cases b <;> rfl
@[simp] theorem registersWritten_jpCond (cc : Cond) (v : Word) : (Instr.jpCond cc v).registersWritten s = [] := by
  cases cc <;> rfl
@[simp] theorem registersWritten_jrCond (cc : Cond) (v : Byte) : (Instr.jrCond cc v).registersWritten s = [] := by
  cases cc <;> rfl
@[simp] theorem registersWritten_callCond (cc : Cond) (v : Word) : (Instr.callCond cc v).registersWritten s = [] := by
  cases cc <;> rfl
@[simp] theorem registersWritten_retCond (cc : Cond) : (Instr.retCond cc).registersWritten s = [] := by
  cases cc <;> rfl
@[simp] theorem registersWritten_rstRow (t : RstTarget) : (Instr.rstRow t).registersWritten s = [] := by
  cases t <;> rfl
@[simp] theorem registersWritten_illegalRow (k : IllegalOp) : (Instr.illegalRow k).registersWritten s = [] := by
  cases k <;> rfl
@[simp] theorem registersWritten_nop : (Instr.nop).registersWritten s = [] := rfl
@[simp] theorem registersWritten_ld_mBC_A : (Instr.ld_mBC_A).registersWritten s = [] := rfl
@[simp] theorem registersWritten_rlca : (Instr.rlca).registersWritten s = [.A] := rfl
@[simp] theorem registersWritten_ld_ma16_SP (a16 : Word) : (Instr.ld_ma16_SP a16).registersWritten s = [] := rfl
@[simp] theorem registersWritten_ld_A_mBC : (Instr.ld_A_mBC).registersWritten s = [.A] := rfl
@[simp] theorem registersWritten_rrca : (Instr.rrca).registersWritten s = [.A] := rfl
@[simp] theorem registersWritten_stop (pad : Byte) : (Instr.stop pad).registersWritten s = [] := rfl
@[simp] theorem registersWritten_ld_mDE_A : (Instr.ld_mDE_A).registersWritten s = [] := rfl
@[simp] theorem registersWritten_rla : (Instr.rla).registersWritten s = [.A] := rfl
@[simp] theorem registersWritten_jr_r8 (r8 : Byte) : (Instr.jr_r8 r8).registersWritten s = [] := rfl
@[simp] theorem registersWritten_ld_A_mDE : (Instr.ld_A_mDE).registersWritten s = [.A] := rfl
@[simp] theorem registersWritten_rra : (Instr.rra).registersWritten s = [.A] := rfl
@[simp] theorem registersWritten_ld_mHLi_A : (Instr.ld_mHLi_A).registersWritten s = [.H, .L] := rfl
@[simp] theorem registersWritten_daa : (Instr.daa).registersWritten s = [.A] := rfl
@[simp] theorem registersWritten_ld_A_mHLi : (Instr.ld_A_mHLi).registersWritten s = [.A, .H, .L] := rfl
@[simp] theorem registersWritten_cpl : (Instr.cpl).registersWritten s = [.A] := rfl
@[simp] theorem registersWritten_ld_mHLd_A : (Instr.ld_mHLd_A).registersWritten s = [.H, .L] := rfl
@[simp] theorem registersWritten_ld_mHL_d8 (d8 : Byte) : (Instr.ld_mHL_d8 d8).registersWritten s = [] := rfl
@[simp] theorem registersWritten_scf : (Instr.scf).registersWritten s = [] := rfl
@[simp] theorem registersWritten_ld_A_mHLd : (Instr.ld_A_mHLd).registersWritten s = [.A, .H, .L] := rfl
@[simp] theorem registersWritten_ccf : (Instr.ccf).registersWritten s = [] := rfl
@[simp] theorem registersWritten_halt : (Instr.halt).registersWritten s = [] := rfl
@[simp] theorem registersWritten_jp_a16 (a16 : Word) : (Instr.jp_a16 a16).registersWritten s = [] := rfl
@[simp] theorem registersWritten_ret : (Instr.ret).registersWritten s = [] := rfl
@[simp] theorem registersWritten_prefixCb : (Instr.prefixCb).registersWritten s = cbRegisters (s.memRead (s.pc + 1)) := rfl
@[simp] theorem registersWritten_call_a16 (a16 : Word) : (Instr.call_a16 a16).registersWritten s = [] := rfl
@[simp] theorem registersWritten_reti : (Instr.reti).registersWritten s = [] := rfl
@[simp] theorem registersWritten_ldh_ma8_A (a8 : Byte) : (Instr.ldh_ma8_A a8).registersWritten s = [] := rfl
@[simp] theorem registersWritten_ld_mC_A : (Instr.ld_mC_A).registersWritten s = [] := rfl
@[simp] theorem registersWritten_add_SP_r8 (r8 : Byte) : (Instr.add_SP_r8 r8).registersWritten s = [] := rfl
@[simp] theorem registersWritten_jp_mHL : (Instr.jp_mHL).registersWritten s = [] := rfl
@[simp] theorem registersWritten_ld_ma16_A (a16 : Word) : (Instr.ld_ma16_A a16).registersWritten s = [] := rfl
@[simp] theorem registersWritten_ldh_A_ma8 (a8 : Byte) : (Instr.ldh_A_ma8 a8).registersWritten s = [.A] := rfl
@[simp] theorem registersWritten_ld_A_mC : (Instr.ld_A_mC).registersWritten s = [.A] := rfl
@[simp] theorem registersWritten_di : (Instr.di).registersWritten s = [] := rfl
@[simp] theorem registersWritten_ld_HL_SPr8 (r8 : Byte) : (Instr.ld_HL_SPr8 r8).registersWritten s = [.H, .L] := rfl
@[simp] theorem registersWritten_ld_SP_HL : (Instr.ld_SP_HL).registersWritten s = [] := rfl
@[simp] theorem registersWritten_ld_A_ma16 (a16 : Word) : (Instr.ld_A_ma16 a16).registersWritten s = [.A] := rfl
@[simp] theorem registersWritten_ei : (Instr.ei).registersWritten s = [] := rfl

/-! ### flagsWritten -/

@[simp] theorem flagsWritten_ldRegReg (d : Reg8) (r : Reg8) : (Instr.ldRegReg d r).flagsWritten s = [] := by
  cases d <;> cases r <;> rfl
@[simp] theorem flagsWritten_ldRegImm (d : Reg8) (v : Byte) : (Instr.ldRegImm d v).flagsWritten s = [] := by
  cases d <;> rfl
@[simp] theorem flagsWritten_ldRegHL (d : Reg8) : (Instr.ldRegHL d).flagsWritten s = [] := by
  cases d <;> rfl
@[simp] theorem flagsWritten_ldHLReg (r : Reg8) : (Instr.ldHLReg r).flagsWritten s = [] := by
  cases r <;> rfl
@[simp] theorem flagsWritten_ldPairImm (p : Pair) (v : Word) : (Instr.ldPairImm p v).flagsWritten s = [] := by
  cases p <;> rfl
@[simp] theorem flagsWritten_pushRow (p : StackPair) : (Instr.pushRow p).flagsWritten s = [] := by
  cases p <;> rfl
@[simp] theorem flagsWritten_popRow (p : StackPair) : (Instr.popRow p).flagsWritten s = if p = .AF then [.Z, .N, .H, .C] else [] := by
  cases p <;> rfl
@[simp] theorem flagsWritten_aluLoc (op : AluOp) (x : Loc8) : (Instr.aluLoc op x).flagsWritten s = [.Z, .N, .H, .C] := by
  rcases x with r | _
  · cases r <;> cases op <;> rfl
  · cases op <;> rfl
@[simp] theorem flagsWritten_aluImm (op : AluOp) (v : Byte) : (Instr.aluImm op v).flagsWritten s = [.Z, .N, .H, .C] := by
  cases op <;> rfl
@[simp] theorem flagsWritten_incLoc (x : Loc8) : (Instr.incLoc x).flagsWritten s = [.Z, .N, .H] := by
  rcases x with r | _
  · cases r <;> rfl
  · rfl
@[simp] theorem flagsWritten_decLoc (x : Loc8) : (Instr.decLoc x).flagsWritten s = [.Z, .N, .H] := by
  rcases x with r | _
  · cases r <;> rfl
  · rfl
@[simp] theorem flagsWritten_addHLPair (p : Pair) : (Instr.addHLPair p).flagsWritten s = [.N, .H, .C] := by
  cases p <;> rfl
@[simp] theorem flagsWritten_incPair (p : Pair) : (Instr.incPair p).flagsWritten s = [] := by
  cases p <;> rfl
@[simp] theorem flagsWritten_decPair (p : Pair) : (Instr.decPair p).flagsWritten s = [] := by
  cases p <;> rfl
@[simp] theorem flagsWritten_rotLoc (op : RotOp) (x : Loc8) : (Instr.rotLoc op x).flagsWritten s = [.Z, .N, .H, .C] := by
  rcases x with r | _
  · cases r <;> cases op <;> rfl
  · cases op <;> rfl
@[simp] theorem flagsWritten_bitLoc (b : BitIdx) (x : Loc8) : (Instr.bitLoc b x).flagsWritten s = [.Z, .N, .H] := by
  rcases x with r | _
  · cases r <;> cases b <;> rfl
  · cases b <;> rfl
@[simp] theorem flagsWritten_resLoc (b : BitIdx) (x : Loc8) : (Instr.resLoc b x).flagsWritten s = [] := by
  rcases x with r | _
  · cases r <;> cases b <;> rfl
  · cases b <;> rfl
@[simp] theorem flagsWritten_setLoc (b : BitIdx) (x : Loc8) : (Instr.setLoc b x).flagsWritten s = [] := by
  rcases x with r | _
  · cases r <;> cases b <;> rfl
  · cases b <;> rfl
@[simp] theorem flagsWritten_jpCond (cc : Cond) (v : Word) : (Instr.jpCond cc v).flagsWritten s = [] := by
  cases cc <;> rfl
@[simp] theorem flagsWritten_jrCond (cc : Cond) (v : Byte) : (Instr.jrCond cc v).flagsWritten s = [] := by
  cases cc <;> rfl
@[simp] theorem flagsWritten_callCond (cc : Cond) (v : Word) : (Instr.callCond cc v).flagsWritten s = [] := by
  cases cc <;> rfl
@[simp] theorem flagsWritten_retCond (cc : Cond) : (Instr.retCond cc).flagsWritten s = [] := by
  cases cc <;> rfl
@[simp] theorem flagsWritten_rstRow (t : RstTarget) : (Instr.rstRow t).flagsWritten s = [] := by
  cases t <;> rfl
@[simp] theorem flagsWritten_illegalRow (k : IllegalOp) : (Instr.illegalRow k).flagsWritten s = [] := by
  cases k <;> rfl
@[simp] theorem flagsWritten_nop : (Instr.nop).flagsWritten s = [] := rfl
@[simp] theorem flagsWritten_ld_mBC_A : (Instr.ld_mBC_A).flagsWritten s = [] := rfl
@[simp] theorem flagsWritten_rlca : (Instr.rlca).flagsWritten s = [.Z, .N, .H, .C] := rfl
@[simp] theorem flagsWritten_ld_ma16_SP (a16 : Word) : (Instr.ld_ma16_SP a16).flagsWritten s = [] := rfl
@[simp] theorem flagsWritten_ld_A_mBC : (Instr.ld_A_mBC).flagsWritten s = [] := rfl
@[simp] theorem flagsWritten_rrca : (Instr.rrca).flagsWritten s = [.Z, .N, .H, .C] := rfl
@[simp] theorem flagsWritten_stop (pad : Byte) : (Instr.stop pad).flagsWritten s = [] := rfl
@[simp] theorem flagsWritten_ld_mDE_A : (Instr.ld_mDE_A).flagsWritten s = [] := rfl
@[simp] theorem flagsWritten_rla : (Instr.rla).flagsWritten s = [.Z, .N, .H, .C] := rfl
@[simp] theorem flagsWritten_jr_r8 (r8 : Byte) : (Instr.jr_r8 r8).flagsWritten s = [] := rfl
@[simp] theorem flagsWritten_ld_A_mDE : (Instr.ld_A_mDE).flagsWritten s = [] := rfl
@[simp] theorem flagsWritten_rra : (Instr.rra).flagsWritten s = [.Z, .N, .H, .C] := rfl
@[simp] theorem flagsWritten_ld_mHLi_A : (Instr.ld_mHLi_A).flagsWritten s = [] := rfl
@[simp] theorem flagsWritten_daa : (Instr.daa).flagsWritten s = [.Z, .H, .C] := rfl
@[simp] theorem flagsWritten_ld_A_mHLi : (Instr.ld_A_mHLi).flagsWritten s = [] := rfl
@[simp] theorem flagsWritten_cpl : (Instr.cpl).flagsWritten s = [.N, .H] := rfl
@[simp] theorem flagsWritten_ld_mHLd_A : (Instr.ld_mHLd_A).flagsWritten s = [] := rfl
@[simp] theorem flagsWritten_ld_mHL_d8 (d8 : Byte) : (Instr.ld_mHL_d8 d8).flagsWritten s = [] := rfl
@[simp] theorem flagsWritten_scf : (Instr.scf).flagsWritten s = [.N, .H, .C] := rfl
@[simp] theorem flagsWritten_ld_A_mHLd : (Instr.ld_A_mHLd).flagsWritten s = [] := rfl
@[simp] theorem flagsWritten_ccf : (Instr.ccf).flagsWritten s = [.N, .H, .C] := rfl
@[simp] theorem flagsWritten_halt : (Instr.halt).flagsWritten s = [] := rfl
@[simp] theorem flagsWritten_jp_a16 (a16 : Word) : (Instr.jp_a16 a16).flagsWritten s = [] := rfl
@[simp] theorem flagsWritten_ret : (Instr.ret).flagsWritten s = [] := rfl
@[simp] theorem flagsWritten_prefixCb : (Instr.prefixCb).flagsWritten s = cbFlags (s.memRead (s.pc + 1)) := rfl
@[simp] theorem flagsWritten_call_a16 (a16 : Word) : (Instr.call_a16 a16).flagsWritten s = [] := rfl
@[simp] theorem flagsWritten_reti : (Instr.reti).flagsWritten s = [] := rfl
@[simp] theorem flagsWritten_ldh_ma8_A (a8 : Byte) : (Instr.ldh_ma8_A a8).flagsWritten s = [] := rfl
@[simp] theorem flagsWritten_ld_mC_A : (Instr.ld_mC_A).flagsWritten s = [] := rfl
@[simp] theorem flagsWritten_add_SP_r8 (r8 : Byte) : (Instr.add_SP_r8 r8).flagsWritten s = [.Z, .N, .H, .C] := rfl
@[simp] theorem flagsWritten_jp_mHL : (Instr.jp_mHL).flagsWritten s = [] := rfl
@[simp] theorem flagsWritten_ld_ma16_A (a16 : Word) : (Instr.ld_ma16_A a16).flagsWritten s = [] := rfl
@[simp] theorem flagsWritten_ldh_A_ma8 (a8 : Byte) : (Instr.ldh_A_ma8 a8).flagsWritten s = [] := rfl
@[simp] theorem flagsWritten_ld_A_mC : (Instr.ld_A_mC).flagsWritten s = [] := rfl
@[simp] theorem flagsWritten_di : (Instr.di).flagsWritten s = [] := rfl
@[simp] theorem flagsWritten_ld_HL_SPr8 (r8 : Byte) : (Instr.ld_HL_SPr8 r8).flagsWritten s = [.Z, .N, .H, .C] := rfl
@[simp] theorem flagsWritten_ld_SP_HL : (Instr.ld_SP_HL).flagsWritten s = [] := rfl
@[simp] theorem flagsWritten_ld_A_ma16 (a16 : Word) : (Instr.ld_A_ma16 a16).flagsWritten s = [] := rfl
@[simp] theorem flagsWritten_ei : (Instr.ei).flagsWritten s = [] := rfl

/-! ### movesSp -/

@[simp] theorem movesSp_ldRegReg (d : Reg8) (r : Reg8) : (Instr.ldRegReg d r).movesSp s = false := by
  cases d <;> cases r <;> rfl
@[simp] theorem movesSp_ldRegImm (d : Reg8) (v : Byte) : (Instr.ldRegImm d v).movesSp s = false := by
  cases d <;> rfl
@[simp] theorem movesSp_ldRegHL (d : Reg8) : (Instr.ldRegHL d).movesSp s = false := by
  cases d <;> rfl
@[simp] theorem movesSp_ldHLReg (r : Reg8) : (Instr.ldHLReg r).movesSp s = false := by
  cases r <;> rfl
@[simp] theorem movesSp_ldPairImm (p : Pair) (v : Word) : (Instr.ldPairImm p v).movesSp s = decide (p = .SP) := by
  cases p <;> rfl
@[simp] theorem movesSp_pushRow (p : StackPair) : (Instr.pushRow p).movesSp s = true := by
  cases p <;> rfl
@[simp] theorem movesSp_popRow (p : StackPair) : (Instr.popRow p).movesSp s = true := by
  cases p <;> rfl
@[simp] theorem movesSp_aluLoc (op : AluOp) (x : Loc8) : (Instr.aluLoc op x).movesSp s = false := by
  rcases x with r | _
  · cases r <;> cases op <;> rfl
  · cases op <;> rfl
@[simp] theorem movesSp_aluImm (op : AluOp) (v : Byte) : (Instr.aluImm op v).movesSp s = false := by
  cases op <;> rfl
@[simp] theorem movesSp_incLoc (x : Loc8) : (Instr.incLoc x).movesSp s = false := by
  rcases x with r | _
  · cases r <;> rfl
  · rfl
@[simp] theorem movesSp_decLoc (x : Loc8) : (Instr.decLoc x).movesSp s = false := by
  rcases x with r | _
  · cases r <;> rfl
  · rfl
@[simp] theorem movesSp_addHLPair (p : Pair) : (Instr.addHLPair p).movesSp s = false := by
  cases p <;> rfl
@[simp] theorem movesSp_incPair (p : Pair) : (Instr.incPair p).movesSp s = decide (p = .SP) := by
  cases p <;> rfl
@[simp] theorem movesSp_decPair (p : Pair) : (Instr.decPair p).movesSp s = decide (p = .SP) := by
  cases p <;> rfl
@[simp] theorem movesSp_rotLoc (op : RotOp) (x : Loc8) : (Instr.rotLoc op x).movesSp s = false := by
  rcases x with r | _
  · cases r <;> cases op <;> rfl
  · cases op <;> rfl
@[simp] theorem movesSp_bitLoc (b : BitIdx) (x : Loc8) : (Instr.bitLoc b x).movesSp s = false := by
  rcases x with r | _
  · cases r <;> cases b <;> rfl
  · cases b <;> rfl
@[simp] theorem movesSp_resLoc (b : BitIdx) (x : Loc8) : (Instr.resLoc b x).movesSp s = false := by
  rcases x with r | _
  · cases r <;> cases b <;> rfl
  · cases b <;> rfl
@[simp] theorem movesSp_setLoc (b : BitIdx) (x : Loc8) : (Instr.setLoc b x).movesSp s = false := by
  rcases x with r | _
  · cases r <;> cases b <;> rfl
  · cases b <;> rfl
@[simp] theorem movesSp_jpCond (cc : Cond) (v : Word) : (Instr.jpCond cc v).movesSp s = false := by
  cases cc <;> rfl
@[simp] theorem movesSp_jrCond (cc : Cond) (v : Byte) : (Instr.jrCond cc v).movesSp s = false := by
  cases cc <;> rfl
@[simp] theorem movesSp_callCond (cc : Cond) (v : Word) : (Instr.callCond cc v).movesSp s = s.cond cc := by
  cases cc <;> rfl
@[simp] theorem movesSp_retCond (cc : Cond) : (Instr.retCond cc).movesSp s = s.cond cc := by
  cases cc <;> rfl
@[simp] theorem movesSp_rstRow (t : RstTarget) : (Instr.rstRow t).movesSp s = true := by
  cases t <;> rfl
@[simp] theorem movesSp_illegalRow (k : IllegalOp) : (Instr.illegalRow k).movesSp s = false := by
  cases k <;> rfl
@[simp] theorem movesSp_nop : (Instr.nop).movesSp s = false := rfl
@[simp] theorem movesSp_ld_mBC_A : (Instr.ld_mBC_A).movesSp s = false := rfl
@[simp] theorem movesSp_rlca : (Instr.rlca).movesSp s = false := rfl
@[simp] theorem movesSp_ld_ma16_SP (a16 : Word) : (Instr.ld_ma16_SP a16).movesSp s = false := rfl
@[simp] theorem movesSp_ld_A_mBC : (Instr.ld_A_mBC).movesSp s = false := rfl
@[simp] theorem movesSp_rrca : (Instr.rrca).movesSp s = false := rfl
@[simp] theorem movesSp_stop (pad : Byte) : (Instr.stop pad).movesSp s = false := rfl
@[simp] theorem movesSp_ld_mDE_A : (Instr.ld_mDE_A).movesSp s = false := rfl
@[simp] theorem movesSp_rla : (Instr.rla).movesSp s = false := rfl
@[simp] theorem movesSp_jr_r8 (r8 : Byte) : (Instr.jr_r8 r8).movesSp s = false := rfl
@[simp] theorem movesSp_ld_A_mDE : (Instr.ld_A_mDE).movesSp s = false := rfl
@[simp] theorem movesSp_rra : (Instr.rra).movesSp s = false := rfl
@[simp] theorem movesSp_ld_mHLi_A : (Instr.ld_mHLi_A).movesSp s = false := rfl
@[simp] theorem movesSp_daa : (Instr.daa).movesSp s = false := rfl
@[simp] theorem movesSp_ld_A_mHLi : (Instr.ld_A_mHLi).movesSp s = false := rfl
@[simp] theorem movesSp_cpl : (Instr.cpl).movesSp s = false := rfl
@[simp] theorem movesSp_ld_mHLd_A : (Instr.ld_mHLd_A).movesSp s = false := rfl
@[simp] theorem movesSp_ld_mHL_d8 (d8 : Byte) : (Instr.ld_mHL_d8 d8).movesSp s = false := rfl
@[simp] theorem movesSp_scf : (Instr.scf).movesSp s = false := rfl
@[simp] theorem movesSp_ld_A_mHLd : (Instr.ld_A_mHLd).movesSp s = false := rfl
@[simp] theorem movesSp_ccf : (Instr.ccf).movesSp s = false := rfl
@[simp] theorem movesSp_halt : (Instr.halt).movesSp s = false := rfl
@[simp] theorem movesSp_jp_a16 (a16 : Word) : (Instr.jp_a16 a16).movesSp s = false := rfl
@[simp] theorem movesSp_ret : (Instr.ret).movesSp s = true := rfl
@[simp] theorem movesSp_prefixCb : (Instr.prefixCb).movesSp s = false := rfl
@[simp] theorem movesSp_call_a16 (a16 : Word) : (Instr.call_a16 a16).movesSp s = true := rfl
@[simp] theorem movesSp_reti : (Instr.reti).movesSp s = true := rfl
@[simp] theorem movesSp_ldh_ma8_A (a8 : Byte) : (Instr.ldh_ma8_A a8).movesSp s = false := rfl
@[simp] theorem movesSp_ld_mC_A : (Instr.ld_mC_A).movesSp s = false := rfl
@[simp] theorem movesSp_add_SP_r8 (r8 : Byte) : (Instr.add_SP_r8 r8).movesSp s = true := rfl
@[simp] theorem movesSp_jp_mHL : (Instr.jp_mHL).movesSp s = false := rfl
@[simp] theorem movesSp_ld_ma16_A (a16 : Word) : (Instr.ld_ma16_A a16).movesSp s = false := rfl
@[simp] theorem movesSp_ldh_A_ma8 (a8 : Byte) : (Instr.ldh_A_ma8 a8).movesSp s = false := rfl
@[simp] theorem movesSp_ld_A_mC : (Instr.ld_A_mC).movesSp s = false := rfl
@[simp] theorem movesSp_di : (Instr.di).movesSp s = false := rfl
@[simp] theorem movesSp_ld_HL_SPr8 (r8 : Byte) : (Instr.ld_HL_SPr8 r8).movesSp s = false := rfl
@[simp] theorem movesSp_ld_SP_HL : (Instr.ld_SP_HL).movesSp s = true := rfl
@[simp] theorem movesSp_ld_A_ma16 (a16 : Word) : (Instr.ld_A_ma16 a16).movesSp s = false := rfl
@[simp] theorem movesSp_ei : (Instr.ei).movesSp s = false := rfl

/-! ### The instruction behind the prefix byte -/

theorem storeAddresses_cbInstr (sub : Byte) : (cbInstr sub).storeAddresses s = cbStores sub s := by
  have h : ∀ n : Nat, n < 8 → storesAt s (Loc8.ofIndex n) = if n = 6 then [s.hl] else []
    | 0, _ | 1, _ | 2, _ | 3, _ | 4, _ | 5, _ | 6, _ | 7, _ => rfl
  unfold cbInstr cbStores
  have hz := h (sub.toNat % 8) (by omega)
  split <;> rename_i hx
  · simp [hz, hx]
  · simp [hx]
  · simp [hz, hx]
  · simp_all

theorem registersWritten_cbInstr (sub : Byte) : (cbInstr sub).registersWritten s = cbRegisters sub := by
  unfold cbInstr cbRegisters
  split <;> rename_i hx <;> simp [hx] <;> first | rfl | (cases Loc8.ofIndex (sub.toNat % 8) <;> simp_all [locRegisters])

theorem flagsWritten_cbInstr (sub : Byte) : (cbInstr sub).flagsWritten s = cbFlags sub := by
  unfold cbInstr cbFlags
  split <;> rename_i hx <;> simp [hx]

theorem movesSp_cbInstr (sub : Byte) : (cbInstr sub).movesSp s = false := by
  unfold cbInstr
  split <;> simp

end Sys2Proof.Instr
end

