-- ==== Sys2Proof/Laws/Families.lean ====
section
/-! SUPPORT. The rows of the opcode table by family: every instruction is one of the single rows or a row of one of
the selectors of Syntax.lean, so that a proof over all instructions has 63 cases; and what `exec` runs for each
selector. -/

namespace Sys2Proof

/-- Case analysis on an instruction by family. -/
theorem Instr.byFamily {P : Instr → Prop}
    (h_ldRegReg : ∀ d r, P (.ldRegReg d r))
    (h_ldRegImm : ∀ d v, P (.ldRegImm d v))
    (h_ldRegHL : ∀ d, P (.ldRegHL d))
    (h_ldHLReg : ∀ r, P (.ldHLReg r))
    (h_ldPairImm : ∀ p v, P (.ldPairImm p v))
    (h_pushRow : ∀ p, P (.pushRow p))
    (h_popRow : ∀ p, P (.popRow p))
    (h_aluLoc : ∀ op x, P (.aluLoc op x))
    (h_aluImm : ∀ op v, P (.aluImm op v))
    (h_incLoc : ∀ x, P (.incLoc x))
    (h_decLoc : ∀ x, P (.decLoc x))
    (h_addHLPair : ∀ p, P (.addHLPair p))
    (h_incPair : ∀ p, P (.incPair p))
    (h_decPair : ∀ p, P (.decPair p))
    (h_rotLoc : ∀ op x, P (.rotLoc op x))
    (h_bitLoc : ∀ b x, P (.bitLoc b x))
    (h_resLoc : ∀ b x, P (.resLoc b x))
    (h_setLoc : ∀ b x, P (.setLoc b x))
    (h_jpCond : ∀ cc v, P (.jpCond cc v))
    (h_jrCond : ∀ cc v, P (.jrCond cc v))
    (h_callCond : ∀ cc v, P (.callCond cc v))
    (h_retCond : ∀ cc, P (.retCond cc))
    (h_rstRow : ∀ t, P (.rstRow t))
    (h_illegalRow : ∀ k, P (.illegalRow k))
    (h_nop : P .nop)
    (h_ld_mBC_A : P .ld_mBC_A)
    (h_rlca : P .rlca)
    (h_ld_ma16_SP : ∀ a16, P (.ld_ma16_SP a16))
    (h_ld_A_mBC : P .ld_A_mBC)
    (h_rrca : P .rrca)
    (h_stop : ∀ pad, P (.stop pad))
    (h_ld_mDE_A : P .ld_mDE_A)
    (h_rla : P .rla)
    (h_jr_r8 : ∀ r8, P (.jr_r8 r8))
    (h_ld_A_mDE : P .ld_A_mDE)
    (h_rra : P .rra)
    (h_ld_mHLi_A : P .ld_mHLi_A)
    (h_daa : P .daa)
    (h_ld_A_mHLi : P .ld_A_mHLi)
    (h_cpl : P .cpl)
    (h_ld_mHLd_A : P .ld_mHLd_A)
    (h_ld_mHL_d8 : ∀ d8, P (.ld_mHL_d8 d8))
    (h_scf : P .scf)
    (h_ld_A_mHLd : P .ld_A_mHLd)
    (h_ccf : P .ccf)
    (h_halt : P .halt)
    (h_jp_a16 : ∀ a16, P (.jp_a16 a16))
    (h_ret : P .ret)
    (h_prefixCb : P .prefixCb)
    (h_call_a16 : ∀ a16, P (.call_a16 a16))
    (h_reti : P .reti)
    (h_ldh_ma8_A : ∀ a8, P (.ldh_ma8_A a8))
    (h_ld_mC_A : P .ld_mC_A)
    (h_add_SP_r8 : ∀ r8, P (.add_SP_r8 r8))
    (h_jp_mHL : P .jp_mHL)
    (h_ld_ma16_A : ∀ a16, P (.ld_ma16_A a16))
    (h_ldh_A_ma8 : ∀ a8, P (.ldh_A_ma8 a8))
    (h_ld_A_mC : P .ld_A_mC)
    (h_di : P .di)
    (h_ld_HL_SPr8 : ∀ r8, P (.ld_HL_SPr8 r8))
    (h_ld_SP_HL : P .ld_SP_HL)
    (h_ld_A_ma16 : ∀ a16, P (.ld_A_ma16 a16))
    (h_ei : P .ei)
    (i : Instr) : P i :=
  match i with
  | .nop => h_nop
  | .ld_BC_d16 d16 => h_ldPairImm .BC d16
  | .ld_mBC_A => h_ld_mBC_A
  | .inc_BC => h_incPair .BC
  | .inc_B => h_incLoc (.reg .B)
  | .dec_B => h_decLoc (.reg .B)
  | .ld_B_d8 d8 => h_ldRegImm .B d8
  | .rlca => h_rlca
  | .ld_ma16_SP a16 => h_ld_ma16_SP a16
  | .add_HL_BC => h_addHLPair .BC
  | .ld_A_mBC => h_ld_A_mBC
  | .dec_BC => h_decPair .BC
  | .inc_C => h_incLoc (.reg .C)
  | .dec_C => h_decLoc (.reg .C)
  | .ld_C_d8 d8 => h_ldRegImm .C d8
  | .rrca => h_rrca
  | .stop pad => h_stop pad
  | .ld_DE_d16 d16 => h_ldPairImm .DE d16
  | .ld_mDE_A => h_ld_mDE_A
  | .inc_DE => h_incPair .DE
  | .inc_D => h_incLoc (.reg .D)
  | .dec_D => h_decLoc (.reg .D)
  | .ld_D_d8 d8 => h_ldRegImm .D d8
  | .rla => h_rla
  | .jr_r8 r8 => h_jr_r8 r8
  | .add_HL_DE => h_addHLPair .DE
  | .ld_A_mDE => h_ld_A_mDE
  | .dec_DE => h_decPair .DE
  | .inc_E => h_incLoc (.reg .E)
  | .dec_E => h_decLoc (.reg .E)
  | .ld_E_d8 d8 => h_ldRegImm .E d8
  | .rra => h_rra
  | .jr_NZ_r8 r8 => h_jrCond .NZ r8
  | .ld_HL_d16 d16 => h_ldPairImm .HL d16
  | .ld_mHLi_A => h_ld_mHLi_A
  | .inc_HL => h_incPair .HL
  | .inc_H => h_incLoc (.reg .H)
  | .dec_H => h_decLoc (.reg .H)
  | .ld_H_d8 d8 => h_ldRegImm .H d8
  | .daa => h_daa
  | .jr_Z_r8 r8 => h_jrCond .Z r8
  | .add_HL_HL => h_addHLPair .HL
  | .ld_A_mHLi => h_ld_A_mHLi
  | .dec_HL => h_decPair .HL
  | .inc_L => h_incLoc (.reg .L)
  | .dec_L => h_decLoc (.reg .L)
  | .ld_L_d8 d8 => h_ldRegImm .L d8
  | .cpl => h_cpl
  | .jr_NC_r8 r8 => h_jrCond .NC r8
  | .ld_SP_d16 d16 => h_ldPairImm .SP d16
  | .ld_mHLd_A => h_ld_mHLd_A
  | .inc_SP => h_incPair .SP
  | .inc_mHL => h_incLoc .atHL
  | .dec_mHL => h_decLoc .atHL
  | .ld_mHL_d8 d8 => h_ld_mHL_d8 d8
  | .scf => h_scf
  | .jr_C_r8 r8 => h_jrCond .C r8
  | .add_HL_SP => h_addHLPair .SP
  | .ld_A_mHLd => h_ld_A_mHLd
  | .dec_SP => h_decPair .SP
  | .inc_A => h_incLoc (.reg .A)
  | .dec_A => h_decLoc (.reg .A)
  | .ld_A_d8 d8 => h_ldRegImm .A d8
  | .ccf => h_ccf
  | .ld_B_B => h_ldRegReg .B .B
  | .ld_B_C => h_ldRegReg .B .C
  | .ld_B_D => h_ldRegReg .B .D
  | .ld_B_E => h_ldRegReg .B .E
  | .ld_B_H => h_ldRegReg .B .H
  | .ld_B_L => h_ldRegReg .B .L
  | .ld_B_mHL => h_ldRegHL .B
  | .ld_B_A => h_ldRegReg .B .A
  | .ld_C_B => h_ldRegReg .C .B
  | .ld_C_C => h_ldRegReg .C .C
  | .ld_C_D => h_ldRegReg .C .D
  | .ld_C_E => h_ldRegReg .C .E
  | .ld_C_H => h_ldRegReg .C .H
  | .ld_C_L => h_ldRegReg .C .L
  | .ld_C_mHL => h_ldRegHL .C
  | .ld_C_A => h_ldRegReg .C .A
  | .ld_D_B => h_ldRegReg .D .B
  | .ld_D_C => h_ldRegReg .D .C
  | .ld_D_D => h_ldRegReg .D .D
  | .ld_D_E => h_ldRegReg .D .E
  | .ld_D_H => h_ldRegReg .D .H
  | .ld_D_L => h_ldRegReg .D .L
  | .ld_D_mHL => h_ldRegHL .D
  | .ld_D_A => h_ldRegReg .D .A
  | .ld_E_B => h_ldRegReg .E .B
  | .ld_E_C => h_ldRegReg .E .C
  | .ld_E_D => h_ldRegReg .E .D
  | .ld_E_E => h_ldRegReg .E .E
  | .ld_E_H => h_ldRegReg .E .H
  | .ld_E_L => h_ldRegReg .E .L
  | .ld_E_mHL => h_ldRegHL .E
  | .ld_E_A => h_ldRegReg .E .A
  | .ld_H_B => h_ldRegReg .H .B
  | .ld_H_C => h_ldRegReg .H .C
  | .ld_H_D => h_ldRegReg .H .D
  | .ld_H_E => h_ldRegReg .H .E
  | .ld_H_H => h_ldRegReg .H .H
  | .ld_H_L => h_ldRegReg .H .L
  | .ld_H_mHL => h_ldRegHL .H
  | .ld_H_A => h_ldRegReg .H .A
  | .ld_L_B => h_ldRegReg .L .B
  | .ld_L_C => h_ldRegReg .L .C
  | .ld_L_D => h_ldRegReg .L .D
  | .ld_L_E => h_ldRegReg .L .E
  | .ld_L_H => h_ldRegReg .L .H
  | .ld_L_L => h_ldRegReg .L .L
  | .ld_L_mHL => h_ldRegHL .L
  | .ld_L_A => h_ldRegReg .L .A
  | .ld_mHL_B => h_ldHLReg .B
  | .ld_mHL_C => h_ldHLReg .C
  | .ld_mHL_D => h_ldHLReg .D
  | .ld_mHL_E => h_ldHLReg .E
  | .ld_mHL_H => h_ldHLReg .H
  | .ld_mHL_L => h_ldHLReg .L
  | .halt => h_halt
  | .ld_mHL_A => h_ldHLReg .A
  | .ld_A_B => h_ldRegReg .A .B
  | .ld_A_C => h_ldRegReg .A .C
  | .ld_A_D => h_ldRegReg .A .D
  | .ld_A_E => h_ldRegReg .A .E
  | .ld_A_H => h_ldRegReg .A .H
  | .ld_A_L => h_ldRegReg .A .L
  | .ld_A_mHL => h_ldRegHL .A
  | .ld_A_A => h_ldRegReg .A .A
  | .add_A_B => h_aluLoc .add (.reg .B)
  | .add_A_C => h_aluLoc .add (.reg .C)
  | .add_A_D => h_aluLoc .add (.reg .D)
  | .add_A_E => h_aluLoc .add (.reg .E)
  | .add_A_H => h_aluLoc .add (.reg .H)
  | .add_A_L => h_aluLoc .add (.reg .L)
  | .add_A_mHL => h_aluLoc .add .atHL
  | .add_A_A => h_aluLoc .add (.reg .A)
  | .adc_A_B => h_aluLoc .adc (.reg .B)
  | .adc_A_C => h_aluLoc .adc (.reg .C)
  | .adc_A_D => h_aluLoc .adc (.reg .D)
  | .adc_A_E => h_aluLoc .adc (.reg .E)
  | .adc_A_H => h_aluLoc .adc (.reg .H)
  | .adc_A_L => h_aluLoc .adc (.reg .L)
  | .adc_A_mHL => h_aluLoc .adc .atHL
  | .adc_A_A => h_aluLoc .adc (.reg .A)
  | .sub_B => h_aluLoc .sub (.reg .B)
  | .sub_C => h_aluLoc .sub (.reg .C)
  | .sub_D => h_aluLoc .sub (.reg .D)
  | .sub_E => h_aluLoc .sub (.reg .E)
  | .sub_H => h_aluLoc .sub (.reg .H)
  | .sub_L => h_aluLoc .sub (.reg .L)
  | .sub_mHL => h_aluLoc .sub .atHL
  | .sub_A => h_aluLoc .sub (.reg .A)
  | .sbc_A_B => h_aluLoc .sbc (.reg .B)
  | .sbc_A_C => h_aluLoc .sbc (.reg .C)
  | .sbc_A_D => h_aluLoc .sbc (.reg .D)
  | .sbc_A_E => h_aluLoc .sbc (.reg .E)
  | .sbc_A_H => h_aluLoc .sbc (.reg .H)
  | .sbc_A_L => h_aluLoc .sbc (.reg .L)
  | .sbc_A_mHL => h_aluLoc .sbc .atHL
  | .sbc_A_A => h_aluLoc .sbc (.reg .A)
  | .and_B => h_aluLoc .and (.reg .B)
  | .and_C => h_aluLoc .and (.reg .C)
  | .and_D => h_aluLoc .and (.reg .D)
  | .and_E => h_aluLoc .and (.reg .E)
  | .and_H => h_aluLoc .and (.reg .H)
  | .and_L => h_aluLoc .and (.reg .L)
  | .and_mHL => h_aluLoc .and .atHL
  | .and_A => h_aluLoc .and (.reg .A)
  | .xor_B => h_aluLoc .xor (.reg .B)
  | .xor_C => h_aluLoc .xor (.reg .C)
  | .xor_D => h_aluLoc .xor (.reg .D)
  | .xor_E => h_aluLoc .xor (.reg .E)
  | .xor_H => h_aluLoc .xor (.reg .H)
  | .xor_L => h_aluLoc .xor (.reg .L)
  | .xor_mHL => h_aluLoc .xor .atHL
  | .xor_A => h_aluLoc .xor (.reg .A)
  | .or_B => h_aluLoc .or (.reg .B)
  | .or_C => h_aluLoc .or (.reg .C)
  | .or_D => h_aluLoc .or (.reg .D)
  | .or_E => h_aluLoc .or (.reg .E)
  | .or_H => h_aluLoc .or (.reg .H)
  | .or_L => h_aluLoc .or (.reg .L)
  | .or_mHL => h_aluLoc .or .atHL
  | .or_A => h_aluLoc .or (.reg .A)
  | .cp_B => h_aluLoc .cp (.reg .B)
  | .cp_C => h_aluLoc .cp (.reg .C)
  | .cp_D => h_aluLoc .cp (.reg .D)
  | .cp_E => h_aluLoc .cp (.reg .E)
  | .cp_H => h_aluLoc .cp (.reg .H)
  | .cp_L => h_aluLoc .cp (.reg .L)
  | .cp_mHL => h_aluLoc .cp .atHL
  | .cp_A => h_aluLoc .cp (.reg .A)
  | .ret_NZ => h_retCond .NZ
  | .pop_BC => h_popRow .BC
  | .jp_NZ_a16 a16 => h_jpCond .NZ a16
  | .jp_a16 a16 => h_jp_a16 a16
  | .call_NZ_a16 a16 => h_callCond .NZ a16
  | .push_BC => h_pushRow .BC
  | .add_A_d8 d8 => h_aluImm .add d8
  | .rst_00 => h_rstRow .t00
  | .ret_Z => h_retCond .Z
  | .ret => h_ret
  | .jp_Z_a16 a16 => h_jpCond .Z a16
  | .prefixCb => h_prefixCb
  | .call_Z_a16 a16 => h_callCond .Z a16
  | .call_a16 a16 => h_call_a16 a16
  | .adc_A_d8 d8 => h_aluImm .adc d8
  | .rst_08 => h_rstRow .t08
  | .ret_NC => h_retCond .NC
  | .pop_DE => h_popRow .DE
  | .jp_NC_a16 a16 => h_jpCond .NC a16
  | .illegal_D3 => h_illegalRow .xD3
  | .call_NC_a16 a16 => h_callCond .NC a16
  | .push_DE => h_pushRow .DE
  | .sub_d8 d8 => h_aluImm .sub d8
  | .rst_10 => h_rstRow .t10
  | .ret_C => h_retCond .C
  | .reti => h_reti
  | .jp_C_a16 a16 => h_jpCond .C a16
  | .illegal_DB => h_illegalRow .xDB
  | .call_C_a16 a16 => h_callCond .C a16
  | .illegal_DD => h_illegalRow .xDD
  | .sbc_A_d8 d8 => h_aluImm .sbc d8
  | .rst_18 => h_rstRow .t18
  | .ldh_ma8_A a8 => h_ldh_ma8_A a8
  | .pop_HL => h_popRow .HL
  | .ld_mC_A => h_ld_mC_A
  | .illegal_E3 => h_illegalRow .xE3
  | .illegal_E4 => h_illegalRow .xE4
  | .push_HL => h_pushRow .HL
  | .and_d8 d8 => h_aluImm .and d8
  | .rst_20 => h_rstRow .t20
  | .add_SP_r8 r8 => h_add_SP_r8 r8
  | .jp_mHL => h_jp_mHL
  | .ld_ma16_A a16 => h_ld_ma16_A a16
  | .illegal_EB => h_illegalRow .xEB
  | .illegal_EC => h_illegalRow .xEC
  | .illegal_ED => h_illegalRow .xED
  | .xor_d8 d8 => h_aluImm .xor d8
  | .rst_28 => h_rstRow .t28
  | .ldh_A_ma8 a8 => h_ldh_A_ma8 a8
  | .pop_AF => h_popRow .AF
  | .ld_A_mC => h_ld_A_mC
  | .di => h_di
  | .illegal_F4 => h_illegalRow .xF4
  | .push_AF => h_pushRow .AF
  | .or_d8 d8 => h_aluImm .or d8
  | .rst_30 => h_rstRow .t30
  | .ld_HL_SPr8 r8 => h_ld_HL_SPr8 r8
  | .ld_SP_HL => h_ld_SP_HL
  | .ld_A_ma16 a16 => h_ld_A_ma16 a16
  | .ei => h_ei
  | .illegal_FC => h_illegalRow .xFC
  | .illegal_FD => h_illegalRow .xFD
  | .cp_d8 d8 => h_aluImm .cp d8
  | .rst_38 => h_rstRow .t38
  | .rlc_B => h_rotLoc .rlc (.reg .B)
  | .rlc_C => h_rotLoc .rlc (.reg .C)
  | .rlc_D => h_rotLoc .rlc (.reg .D)
  | .rlc_E => h_rotLoc .rlc (.reg .E)
  | .rlc_H => h_rotLoc .rlc (.reg .H)
  | .rlc_L => h_rotLoc .rlc (.reg .L)
  | .rlc_mHL => h_rotLoc .rlc .atHL
  | .rlc_A => h_rotLoc .rlc (.reg .A)
  | .rrc_B => h_rotLoc .rrc (.reg .B)
  | .rrc_C => h_rotLoc .rrc (.reg .C)
  | .rrc_D => h_rotLoc .rrc (.reg .D)
  | .rrc_E => h_rotLoc .rrc (.reg .E)
  | .rrc_H => h_rotLoc .rrc (.reg .H)
  | .rrc_L => h_rotLoc .rrc (.reg .L)
  | .rrc_mHL => h_rotLoc .rrc .atHL
  | .rrc_A => h_rotLoc .rrc (.reg .A)
  | .rl_B => h_rotLoc .rl (.reg .B)
  | .rl_C => h_rotLoc .rl (.reg .C)
  | .rl_D => h_rotLoc .rl (.reg .D)
  | .rl_E => h_rotLoc .rl (.reg .E)
  | .rl_H => h_rotLoc .rl (.reg .H)
  | .rl_L => h_rotLoc .rl (.reg .L)
  | .rl_mHL => h_rotLoc .rl .atHL
  | .rl_A => h_rotLoc .rl (.reg .A)
  | .rr_B => h_rotLoc .rr (.reg .B)
  | .rr_C => h_rotLoc .rr (.reg .C)
  | .rr_D => h_rotLoc .rr (.reg .D)
  | .rr_E => h_rotLoc .rr (.reg .E)
  | .rr_H => h_rotLoc .rr (.reg .H)
  | .rr_L => h_rotLoc .rr (.reg .L)
  | .rr_mHL => h_rotLoc .rr .atHL
  | .rr_A => h_rotLoc .rr (.reg .A)
  | .sla_B => h_rotLoc .sla (.reg .B)
  | .sla_C => h_rotLoc .sla (.reg .C)
  | .sla_D => h_rotLoc .sla (.reg .D)
  | .sla_E => h_rotLoc .sla (.reg .E)
  | .sla_H => h_rotLoc .sla (.reg .H)
  | .sla_L => h_rotLoc .sla (.reg .L)
  | .sla_mHL => h_rotLoc .sla .atHL
  | .sla_A => h_rotLoc .sla (.reg .A)
  | .sra_B => h_rotLoc .sra (.reg .B)
  | .sra_C => h_rotLoc .sra (.reg .C)
  | .sra_D => h_rotLoc .sra (.reg .D)
  | .sra_E => h_rotLoc .sra (.reg .E)
  | .sra_H => h_rotLoc .sra (.reg .H)
  | .sra_L => h_rotLoc .sra (.reg .L)
  | .sra_mHL => h_rotLoc .sra .atHL
  | .sra_A => h_rotLoc .sra (.reg .A)
  | .swap_B => h_rotLoc .swap (.reg .B)
  | .swap_C => h_rotLoc .swap (.reg .C)
  | .swap_D => h_rotLoc .swap (.reg .D)
  | .swap_E => h_rotLoc .swap (.reg .E)
  | .swap_H => h_rotLoc .swap (.reg .H)
  | .swap_L => h_rotLoc .swap (.reg .L)
  | .swap_mHL => h_rotLoc .swap .atHL
  | .swap_A => h_rotLoc .swap (.reg .A)
  | .srl_B => h_rotLoc .srl (.reg .B)
  | .srl_C => h_rotLoc .srl (.reg .C)
  | .srl_D => h_rotLoc .srl (.reg .D)
  | .srl_E => h_rotLoc .srl (.reg .E)
  | .srl_H => h_rotLoc .srl (.reg .H)
  | .srl_L => h_rotLoc .srl (.reg .L)
  | .srl_mHL => h_rotLoc .srl .atHL
  | .srl_A => h_rotLoc .srl (.reg .A)
  | .bit_0_B => h_bitLoc .b0 (.reg .B)
  | .bit_0_C => h_bitLoc .b0 (.reg .C)
  | .bit_0_D => h_bitLoc .b0 (.reg .D)
  | .bit_0_E => h_bitLoc .b0 (.reg .E)
  | .bit_0_H => h_bitLoc .b0 (.reg .H)
  | .bit_0_L => h_bitLoc .b0 (.reg .L)
  | .bit_0_mHL => h_bitLoc .b0 .atHL
  | .bit_0_A => h_bitLoc .b0 (.reg .A)
  | .bit_1_B => h_bitLoc .b1 (.reg .B)
  | .bit_1_C => h_bitLoc .b1 (.reg .C)
  | .bit_1_D => h_bitLoc .b1 (.reg .D)
  | .bit_1_E => h_bitLoc .b1 (.reg .E)
  | .bit_1_H => h_bitLoc .b1 (.reg .H)
  | .bit_1_L => h_bitLoc .b1 (.reg .L)
  | .bit_1_mHL => h_bitLoc .b1 .atHL
  | .bit_1_A => h_bitLoc .b1 (.reg .A)
  | .bit_2_B => h_bitLoc .b2 (.reg .B)
  | .bit_2_C => h_bitLoc .b2 (.reg .C)
  | .bit_2_D => h_bitLoc .b2 (.reg .D)
  | .bit_2_E => h_bitLoc .b2 (.reg .E)
  | .bit_2_H => h_bitLoc .b2 (.reg .H)
  | .bit_2_L => h_bitLoc .b2 (.reg .L)
  | .bit_2_mHL => h_bitLoc .b2 .atHL
  | .bit_2_A => h_bitLoc .b2 (.reg .A)
  | .bit_3_B => h_bitLoc .b3 (.reg .B)
  | .bit_3_C => h_bitLoc .b3 (.reg .C)
  | .bit_3_D => h_bitLoc .b3 (.reg .D)
  | .bit_3_E => h_bitLoc .b3 (.reg .E)
  | .bit_3_H => h_bitLoc .b3 (.reg .H)
  | .bit_3_L => h_bitLoc .b3 (.reg .L)
  | .bit_3_mHL => h_bitLoc .b3 .atHL
  | .bit_3_A => h_bitLoc .b3 (.reg .A)
  | .bit_4_B => h_bitLoc .b4 (.reg .B)
  | .bit_4_C => h_bitLoc .b4 (.reg .C)
  | .bit_4_D => h_bitLoc .b4 (.reg .D)
  | .bit_4_E => h_bitLoc .b4 (.reg .E)
  | .bit_4_H => h_bitLoc .b4 (.reg .H)
  | .bit_4_L => h_bitLoc .b4 (.reg .L)
  | .bit_4_mHL => h_bitLoc .b4 .atHL
  | .bit_4_A => h_bitLoc .b4 (.reg .A)
  | .bit_5_B => h_bitLoc .b5 (.reg .B)
  | .bit_5_C => h_bitLoc .b5 (.reg .C)
  | .bit_5_D => h_bitLoc .b5 (.reg .D)
  | .bit_5_E => h_bitLoc .b5 (.reg .E)
  | .bit_5_H => h_bitLoc .b5 (.reg .H)
  | .bit_5_L => h_bitLoc .b5 (.reg .L)
  | .bit_5_mHL => h_bitLoc .b5 .atHL
  | .bit_5_A => h_bitLoc .b5 (.reg .A)
  | .bit_6_B => h_bitLoc .b6 (.reg .B)
  | .bit_6_C => h_bitLoc .b6 (.reg .C)
  | .bit_6_D => h_bitLoc .b6 (.reg .D)
  | .bit_6_E => h_bitLoc .b6 (.reg .E)
  | .bit_6_H => h_bitLoc .b6 (.reg .H)
  | .bit_6_L => h_bitLoc .b6 (.reg .L)
  | .bit_6_mHL => h_bitLoc .b6 .atHL
  | .bit_6_A => h_bitLoc .b6 (.reg .A)
  | .bit_7_B => h_bitLoc .b7 (.reg .B)
  | .bit_7_C => h_bitLoc .b7 (.reg .C)
  | .bit_7_D => h_bitLoc .b7 (.reg .D)
  | .bit_7_E => h_bitLoc .b7 (.reg .E)
  | .bit_7_H => h_bitLoc .b7 (.reg .H)
  | .bit_7_L => h_bitLoc .b7 (.reg .L)
  | .bit_7_mHL => h_bitLoc .b7 .atHL
  | .bit_7_A => h_bitLoc .b7 (.reg .A)
  | .res_0_B => h_resLoc .b0 (.reg .B)
  | .res_0_C => h_resLoc .b0 (.reg .C)
  | .res_0_D => h_resLoc .b0 (.reg .D)
  | .res_0_E => h_resLoc .b0 (.reg .E)
  | .res_0_H => h_resLoc .b0 (.reg .H)
  | .res_0_L => h_resLoc .b0 (.reg .L)
  | .res_0_mHL => h_resLoc .b0 .atHL
  | .res_0_A => h_resLoc .b0 (.reg .A)
  | .res_1_B => h_resLoc .b1 (.reg .B)
  | .res_1_C => h_resLoc .b1 (.reg .C)
  | .res_1_D => h_resLoc .b1 (.reg .D)
  | .res_1_E => h_resLoc .b1 (.reg .E)
  | .res_1_H => h_resLoc .b1 (.reg .H)
  | .res_1_L => h_resLoc .b1 (.reg .L)
  | .res_1_mHL => h_resLoc .b1 .atHL
  | .res_1_A => h_resLoc .b1 (.reg .A)
  | .res_2_B => h_resLoc .b2 (.reg .B)
  | .res_2_C => h_resLoc .b2 (.reg .C)
  | .res_2_D => h_resLoc .b2 (.reg .D)
  | .res_2_E => h_resLoc .b2 (.reg .E)
  | .res_2_H => h_resLoc .b2 (.reg .H)
  | .res_2_L => h_resLoc .b2 (.reg .L)
  | .res_2_mHL => h_resLoc .b2 .atHL
  | .res_2_A => h_resLoc .b2 (.reg .A)
  | .res_3_B => h_resLoc .b3 (.reg .B)
  | .res_3_C => h_resLoc .b3 (.reg .C)
  | .res_3_D => h_resLoc .b3 (.reg .D)
  | .res_3_E => h_resLoc .b3 (.reg .E)
  | .res_3_H => h_resLoc .b3 (.reg .H)
  | .res_3_L => h_resLoc .b3 (.reg .L)
  | .res_3_mHL => h_resLoc .b3 .atHL
  | .res_3_A => h_resLoc .b3 (.reg .A)
  | .res_4_B => h_resLoc .b4 (.reg .B)
  | .res_4_C => h_resLoc .b4 (.reg .C)
  | .res_4_D => h_resLoc .b4 (.reg .D)
  | .res_4_E => h_resLoc .b4 (.reg .E)
  | .res_4_H => h_resLoc .b4 (.reg .H)
  | .res_4_L => h_resLoc .b4 (.reg .L)
  | .res_4_mHL => h_resLoc .b4 .atHL
  | .res_4_A => h_resLoc .b4 (.reg .A)
  | .res_5_B => h_resLoc .b5 (.reg .B)
  | .res_5_C => h_resLoc .b5 (.reg .C)
  | .res_5_D => h_resLoc .b5 (.reg .D)
  | .res_5_E => h_resLoc .b5 (.reg .E)
  | .res_5_H => h_resLoc .b5 (.reg .H)
  | .res_5_L => h_resLoc .b5 (.reg .L)
  | .res_5_mHL => h_resLoc .b5 .atHL
  | .res_5_A => h_resLoc .b5 (.reg .A)
  | .res_6_B => h_resLoc .b6 (.reg .B)
  | .res_6_C => h_resLoc .b6 (.reg .C)
  | .res_6_D => h_resLoc .b6 (.reg .D)
  | .res_6_E => h_resLoc .b6 (.reg .E)
  | .res_6_H => h_resLoc .b6 (.reg .H)
  | .res_6_L => h_resLoc .b6 (.reg .L)
  | .res_6_mHL => h_resLoc .b6 .atHL
  | .res_6_A => h_resLoc .b6 (.reg .A)
  | .res_7_B => h_resLoc .b7 (.reg .B)
  | .res_7_C => h_resLoc .b7 (.reg .C)
  | .res_7_D => h_resLoc .b7 (.reg .D)
  | .res_7_E => h_resLoc .b7 (.reg .E)
  | .res_7_H => h_resLoc .b7 (.reg .H)
  | .res_7_L => h_resLoc .b7 (.reg .L)
  | .res_7_mHL => h_resLoc .b7 .atHL
  | .res_7_A => h_resLoc .b7 (.reg .A)
  | .set_0_B => h_setLoc .b0 (.reg .B)
  | .set_0_C => h_setLoc .b0 (.reg .C)
  | .set_0_D => h_setLoc .b0 (.reg .D)
  | .set_0_E => h_setLoc .b0 (.reg .E)
  | .set_0_H => h_setLoc .b0 (.reg .H)
  | .set_0_L => h_setLoc .b0 (.reg .L)
  | .set_0_mHL => h_setLoc .b0 .atHL
  | .set_0_A => h_setLoc .b0 (.reg .A)
  | .set_1_B => h_setLoc .b1 (.reg .B)
  | .set_1_C => h_setLoc .b1 (.reg .C)
  | .set_1_D => h_setLoc .b1 (.reg .D)
  | .set_1_E => h_setLoc .b1 (.reg .E)
  | .set_1_H => h_setLoc .b1 (.reg .H)
  | .set_1_L => h_setLoc .b1 (.reg .L)
  | .set_1_mHL => h_setLoc .b1 .atHL
  | .set_1_A => h_setLoc .b1 (.reg .A)
  | .set_2_B => h_setLoc .b2 (.reg .B)
  | .set_2_C => h_setLoc .b2 (.reg .C)
  | .set_2_D => h_setLoc .b2 (.reg .D)
  | .set_2_E => h_setLoc .b2 (.reg .E)
  | .set_2_H => h_setLoc .b2 (.reg .H)
  | .set_2_L => h_setLoc .b2 (.reg .L)
  | .set_2_mHL => h_setLoc .b2 .atHL
  | .set_2_A => h_setLoc .b2 (.reg .A)
  | .set_3_B => h_setLoc .b3 (.reg .B)
  | .set_3_C => h_setLoc .b3 (.reg .C)
  | .set_3_D => h_setLoc .b3 (.reg .D)
  | .set_3_E => h_setLoc .b3 (.reg .E)
  | .set_3_H => h_setLoc .b3 (.reg .H)
  | .set_3_L => h_setLoc .b3 (.reg .L)
  | .set_3_mHL => h_setLoc .b3 .atHL
  | .set_3_A => h_setLoc .b3 (.reg .A)
  | .set_4_B => h_setLoc .b4 (.reg .B)
  | .set_4_C => h_setLoc .b4 (.reg .C)
  | .set_4_D => h_setLoc .b4 (.reg .D)
  | .set_4_E => h_setLoc .b4 (.reg .E)
  | .set_4_H => h_setLoc .b4 (.reg .H)
  | .set_4_L => h_setLoc .b4 (.reg .L)
  | .set_4_mHL => h_setLoc .b4 .atHL
  | .set_4_A => h_setLoc .b4 (.reg .A)
  | .set_5_B => h_setLoc .b5 (.reg .B)
  | .set_5_C => h_setLoc .b5 (.reg .C)
  | .set_5_D => h_setLoc .b5 (.reg .D)
  | .set_5_E => h_setLoc .b5 (.reg .E)
  | .set_5_H => h_setLoc .b5 (.reg .H)
  | .set_5_L => h_setLoc .b5 (.reg .L)
  | .set_5_mHL => h_setLoc .b5 .atHL
  | .set_5_A => h_setLoc .b5 (.reg .A)
  | .set_6_B => h_setLoc .b6 (.reg .B)
  | .set_6_C => h_setLoc .b6 (.reg .C)
  | .set_6_D => h_setLoc .b6 (.reg .D)
  | .set_6_E => h_setLoc .b6 (.reg .E)
  | .set_6_H => h_setLoc .b6 (.reg .H)
  | .set_6_L => h_setLoc .b6 (.reg .L)
  | .set_6_mHL => h_setLoc .b6 .atHL
  | .set_6_A => h_setLoc .b6 (.reg .A)
  | .set_7_B => h_setLoc .b7 (.reg .B)
  | .set_7_C => h_setLoc .b7 (.reg .C)
  | .set_7_D => h_setLoc .b7 (.reg .D)
  | .set_7_E => h_setLoc .b7 (.reg .E)
  | .set_7_H => h_setLoc .b7 (.reg .H)
  | .set_7_L => h_setLoc .b7 (.reg .L)
  | .set_7_mHL => h_setLoc .b7 .atHL
  | .set_7_A => h_setLoc .b7 (.reg .A)

end Sys2Proof

namespace Sys2Proof.Machine

variable (s : State)

@[simp] theorem exec_ldRegReg (d : Reg8) (r : Reg8) : exec (.ldRegReg d r) s = loadReg d (s.reg r) 1 s := by
  cases d <;> cases r <;> rfl

@[simp] theorem exec_ldRegImm (d : Reg8) (v : Byte) : exec (.ldRegImm d v) s = loadReg d v 2 s := by
  cases d <;> rfl

@[simp] theorem exec_ldRegHL (d : Reg8) : exec (.ldRegHL d) s = loadReg d (s.memRead s.hl) 1 s := by
  cases d <;> rfl

@[simp] theorem exec_ldHLReg (r : Reg8) : exec (.ldHLReg r) s = storeByte s.hl (s.reg r) 1 s := by
  cases r <;> rfl

@[simp] theorem exec_ldPairImm (p : Pair) (v : Word) : exec (.ldPairImm p v) s = loadPair p v 3 s := by
  cases p <;> rfl

@[simp] theorem exec_pushRow (p : StackPair) : exec (.pushRow p) s = pushPair p s := by
  cases p <;> rfl

@[simp] theorem exec_popRow (p : StackPair) : exec (.popRow p) s = popPair p s := by
  cases p <;> rfl

@[simp] theorem exec_aluLoc (op : AluOp) (x : Loc8) : exec (.aluLoc op x) s = aluOn op (s.loc x) 1 s := by
  rcases x with r | _
  · cases r <;> cases op <;> rfl
  · cases op <;> rfl

@[simp] theorem exec_aluImm (op : AluOp) (v : Byte) : exec (.aluImm op v) s = aluOn op v 2 s := by
  cases op <;> rfl

@[simp] theorem exec_incLoc (x : Loc8) : exec (.incLoc x) s = incOn x s := by
  rcases x with r | _
  · cases r <;> rfl
  · rfl

@[simp] theorem exec_decLoc (x : Loc8) : exec (.decLoc x) s = decOn x s := by
  rcases x with r | _
  · cases r <;> rfl
  · rfl

@[simp] theorem exec_addHLPair (p : Pair) : exec (.addHLPair p) s = addHL p s := by
  cases p <;> rfl

@[simp] theorem exec_incPair (p : Pair) : exec (.incPair p) s = loadPair p (s.pair p + 1) 1 s := by
  cases p <;> rfl

@[simp] theorem exec_decPair (p : Pair) : exec (.decPair p) s = loadPair p (s.pair p - 1) 1 s := by
  cases p <;> rfl

@[simp] theorem exec_rotLoc (op : RotOp) (x : Loc8) : exec (.rotLoc op x) s = rotateOn op x s := by
  rcases x with r | _
  · cases r <;> cases op <;> rfl
  · cases op <;> rfl

@[simp] theorem exec_bitLoc (b : BitIdx) (x : Loc8) : exec (.bitLoc b x) s = bitOn b x s := by
  rcases x with r | _
  · cases r <;> cases b <;> rfl
  · cases b <;> rfl

@[simp] theorem exec_resLoc (b : BitIdx) (x : Loc8) : exec (.resLoc b x) s = resOn b x s := by
  rcases x with r | _
  · cases r <;> cases b <;> rfl
  · cases b <;> rfl

@[simp] theorem exec_setLoc (b : BitIdx) (x : Loc8) : exec (.setLoc b x) s = setOn b x s := by
  rcases x with r | _
  · cases r <;> cases b <;> rfl
  · cases b <;> rfl

@[simp] theorem exec_jpCond (cc : Cond) (v : Word) : exec (.jpCond cc v) s = jumpIf (s.cond cc) v 3 s := by
  cases cc <;> rfl

@[simp] theorem exec_jrCond (cc : Cond) (v : Byte) : exec (.jrCond cc v) s = jumpIf (s.cond cc) (jrTarget s v) 2 s := by
  cases cc <;> rfl

@[simp] theorem exec_callCond (cc : Cond) (v : Word) : exec (.callCond cc v) s = callIf (s.cond cc) v s := by
  cases cc <;> rfl

@[simp] theorem exec_retCond (cc : Cond) : exec (.retCond cc) s = returnIf (s.cond cc) s := by
  cases cc <;> rfl

@[simp] theorem exec_rstRow (t : RstTarget) : exec (.rstRow t) s = callTo t.address 1 s := by
  cases t <;> rfl

@[simp] theorem exec_illegalRow (k : IllegalOp) : exec (.illegalRow k) s = illegalOn k s := by
  cases k <;> rfl

theorem exec_row_nop : exec (.nop) s = .next (s.advance 1) := rfl

theorem exec_row_ld_mBC_A : exec (.ld_mBC_A) s = storeByte s.bc s.a 1 s := rfl

theorem exec_row_rlca : exec (.rlca) s = rotateAcc (rlc s.a) s := rfl

theorem exec_row_ld_ma16_SP (a16 : Word) : exec (.ld_ma16_SP a16) s = andThen (busWrite16 a16 s.sp s) fun t => .next (t.advance 3) := rfl

theorem exec_row_ld_A_mBC : exec (.ld_A_mBC) s = loadReg .A (s.memRead s.bc) 1 s := rfl

theorem exec_row_rrca : exec (.rrca) s = rotateAcc (rrc s.a) s := rfl

theorem exec_row_stop (pad : Byte) : exec (.stop pad) s = exec_stop pad s := rfl

theorem exec_row_ld_mDE_A : exec (.ld_mDE_A) s = storeByte s.de s.a 1 s := rfl

theorem exec_row_rla : exec (.rla) s = rotateAcc (rl s.a s.flags.c) s := rfl

theorem exec_row_jr_r8 (r8 : Byte) : exec (.jr_r8 r8) s = .next (s.setPc (jrTarget s r8)) := rfl

theorem exec_row_ld_A_mDE : exec (.ld_A_mDE) s = loadReg .A (s.memRead s.de) 1 s := rfl

theorem exec_row_rra : exec (.rra) s = rotateAcc (rr s.a s.flags.c) s := rfl

theorem exec_row_ld_mHLi_A : exec (.ld_mHLi_A) s = storeAStepHL 1 s := rfl

theorem exec_row_daa : exec (.daa) s = accResult (daa8 s.a s.flags) 1 s := rfl

theorem exec_row_ld_A_mHLi : exec (.ld_A_mHLi) s = loadAStepHL 1 s := rfl

theorem exec_row_cpl : exec (.cpl) s = accResult (s.a ^^^ 0xFF, { s.flags with n := true, h := true }) 1 s := rfl

theorem exec_row_ld_mHLd_A : exec (.ld_mHLd_A) s = storeAStepHL (-1) s := rfl

theorem exec_row_ld_mHL_d8 (d8 : Byte) : exec (.ld_mHL_d8 d8) s = storeByte s.hl d8 2 s := rfl

theorem exec_row_scf : exec (.scf) s = flagsOnly { s.flags with n := false, h := false, c := true } 1 s := rfl

theorem exec_row_ld_A_mHLd : exec (.ld_A_mHLd) s = loadAStepHL (-1) s := rfl

theorem exec_row_ccf : exec (.ccf) s = flagsOnly { s.flags with n := false, h := false, c := !s.flags.c } 1 s := rfl

theorem exec_row_halt : exec (.halt) s = .next (s.setHalted true) := rfl

theorem exec_row_jp_a16 (a16 : Word) : exec (.jp_a16 a16) s = .next (s.setPc a16) := rfl

theorem exec_row_ret : exec (.ret) s = returnFrom s := rfl

theorem exec_row_prefixCb : exec (.prefixCb) s = runCb (s.memRead (s.pc + 1)) s := rfl

theorem exec_row_call_a16 (a16 : Word) : exec (.call_a16 a16) s = callTo a16 3 s := rfl

theorem exec_row_reti : exec (.reti) s = returnFromInterrupt s := rfl

theorem exec_row_ldh_ma8_A (a8 : Byte) : exec (.ldh_ma8_A a8) s = storeByte (ioPage a8) s.a 2 s := rfl

theorem exec_row_ld_mC_A : exec (.ld_mC_A) s = storeByte (ioPage s.c) s.a 1 s := rfl

theorem exec_row_add_SP_r8 (r8 : Byte) : exec (.add_SP_r8 r8) s = .next (((s.setSp (addSp8 s.sp r8).1).setFlags (addSp8 s.sp r8).2).advance 2) := rfl

theorem exec_row_jp_mHL : exec (.jp_mHL) s = .next (s.setPc s.hl) := rfl

theorem exec_row_ld_ma16_A (a16 : Word) : exec (.ld_ma16_A a16) s = storeByte a16 s.a 3 s := rfl

theorem exec_row_ldh_A_ma8 (a8 : Byte) : exec (.ldh_A_ma8 a8) s = loadReg .A (s.memRead (ioPage a8)) 2 s := rfl

theorem exec_row_ld_A_mC : exec (.ld_A_mC) s = loadReg .A (s.memRead (ioPage s.c)) 1 s := rfl

theorem exec_row_di : exec (.di) s = .next ((s.setIme .disabled).advance 1) := rfl

theorem exec_row_ld_HL_SPr8 (r8 : Byte) : exec (.ld_HL_SPr8 r8) s = .next (((s.setHl (addSp8 s.sp r8).1).setFlags (addSp8 s.sp r8).2).advance 2) := rfl

theorem exec_row_ld_SP_HL : exec (.ld_SP_HL) s = .next ((s.setSp s.hl).advance 1) := rfl

theorem exec_row_ld_A_ma16 (a16 : Word) : exec (.ld_A_ma16 a16) s = loadReg .A (s.memRead a16) 3 s := rfl

theorem exec_row_ei : exec (.ei) s = .next ((s.setIme s.ime.afterEi).advance 1) := rfl

/-- The instruction behind the prefix byte runs as the PREFIX row would run it (R255). -/
theorem exec_cbInstr (sub : Byte) : exec (cbInstr sub) s = runCb sub s := by
  unfold cbInstr runCb
  split <;> simp [*]

end Sys2Proof.Machine
end

