-- ==== Sys2Proof/Laws/Exec.lean ====
section
/-! SUPPORT. What running one instruction can do to memory, the counter, the events and the policy, said once: it is
the bus writes at its store addresses, in order, and nothing else. -/

namespace Sys2Proof.Machine

/-- Bus writes that are no faults, in order. -/
def busWrites (ws : List (Word × Byte)) (s : State) : State :=
  ws.foldl (fun t w => busEffect w.1 w.2 t) s

@[simp] theorem busWrites_nil (s : State) : busWrites [] s = s := rfl

@[simp] theorem busWrites_cons (a : Word) (v : Byte) (ws : List (Word × Byte)) (s : State) :
    busWrites ((a, v) :: ws) s = busWrites ws (busEffect a v s) := rfl

/-- Bus writes clear the counter where one of them is at DIV (20_memory R49). -/
theorem busWrites_ctr (ws : List (Word × Byte)) (s : State) :
    (busWrites ws s).ctr = if Addr.div ∈ ws.map Prod.fst then 0 else s.ctr := by
  induction ws generalizing s with
  | nil => rfl
  | cons w ws ih =>
    obtain ⟨a, v⟩ := w
    rw [busWrites_cons, ih, busEffect_ctr]
    simp only [List.map_cons, List.mem_cons, regionOf_div_iff]
    by_cases h : Addr.div ∈ ws.map Prod.fst
    · rw [if_pos h, if_pos (.inr h)]
    · rw [if_neg h]
      simp only [h, or_false, eq_comm]

@[simp] theorem busWrites_policy (ws : List (Word × Byte)) (s : State) : (busWrites ws s).policy = s.policy := by
  induction ws generalizing s with
  | nil => rfl
  | cons w ws ih =>
    obtain ⟨a, v⟩ := w
    rw [busWrites_cons, ih, busEffect_policy]

/-- What holds of a state and is kept by each bus write is kept by all of them. -/
theorem busWrites_keep {P : State → Prop} (h : ∀ a v s, P s → P (busEffect a v s)) (ws : List (Word × Byte)) (s : State)
    (hs : P s) : P (busWrites ws s) := by
  induction ws generalizing s with
  | nil => exact hs
  | cons w ws ih => exact ih _ (h _ _ _ hs)

/-- `t` is `s` after bus writes at the addresses `as`, as far as memory, the counter, the events and the policy
go. -/
structure StoresAt (as : List Word) (s t : State) (ws : List (Word × Byte)) : Prop where
  addresses : ws.map Prod.fst = as
  mem : t.mem = (busWrites ws s).mem
  ctr : t.ctr = (busWrites ws s).ctr
  events : t.events = (busWrites ws s).events
  policy : t.policy = s.policy

/-- A next state that only register fields tell from `s` stores nothing. -/
theorem StoresAt.none {s t : State} (hm : t.mem = s.mem) (hc : t.ctr = s.ctr) (he : t.events = s.events)
    (hp : t.policy = s.policy) : StoresAt [] s t [] := ⟨rfl, hm, hc, he, hp⟩

section Shapes

variable {s t : State}

theorem loadReg_stores {d : Reg8} {v : Byte} {len : Word} (h : loadReg d v len s = .next t) :
    ∃ ws, StoresAt [] s t ws := by
  cases h
  exact ⟨[], .none (by simp) (by simp) (by simp) (by simp)⟩

theorem storeByte_stores {a : Word} {v : Byte} {len : Word} (h : storeByte a v len s = .next t) :
    ∃ ws, StoresAt [a] s t ws := by
  obtain ⟨u, hu, h⟩ := andThen_eq_next.1 h
  cases busWrite_next hu
  cases h
  exact ⟨[(a, v)], rfl, rfl, rfl, rfl, by simp⟩

theorem loadAStepHL_stores {x : Word} (h : loadAStepHL x s = .next t) : ∃ ws, StoresAt [] s t ws := by
  cases h
  exact ⟨[], .none (by simp) (by simp) (by simp) (by simp)⟩

theorem storeAStepHL_stores {x : Word} (h : storeAStepHL x s = .next t) : ∃ ws, StoresAt [s.hl] s t ws := by
  obtain ⟨u, hu, h⟩ := andThen_eq_next.1 h
  cases busWrite_next hu
  cases h
  exact ⟨[(s.hl, s.a)], rfl, rfl, rfl, rfl, by simp⟩

theorem accResult_stores {rf : Byte × Flags} {len : Word} (h : accResult rf len s = .next t) :
    ∃ ws, StoresAt [] s t ws := by
  cases h
  exact ⟨[], .none (by simp) (by simp) (by simp) (by simp)⟩

theorem flagsOnly_stores {f : Flags} {len : Word} (h : flagsOnly f len s = .next t) :
    ∃ ws, StoresAt [] s t ws := by
  cases h
  exact ⟨[], .none rfl rfl rfl rfl⟩

theorem aluOn_stores {op : AluOp} {x : Byte} {len : Word} (h : aluOn op x len s = .next t) :
    ∃ ws, StoresAt [] s t ws := by
  cases op <;> first | exact accResult_stores h | exact flagsOnly_stores h

theorem writeLoc_stores {x : Loc8} {v : Byte} (h : writeLoc x v s = .next t) :
    ∃ ws, StoresAt (storesAt s x) s t ws := by
  cases x with
  | reg r =>
    cases h
    exact ⟨[], .none (by simp) (by simp) (by simp) (by simp)⟩
  | atHL =>
    cases busWrite_next h
    exact ⟨[(s.hl, v)], rfl, rfl, rfl, rfl, by simp⟩

/-- What comes after the stores and touches none of the four fields changes nothing about them. -/
theorem StoresAt.trans {as : List Word} {u : State} {ws : List (Word × Byte)} (h : StoresAt as s u ws)
    (hm : t.mem = u.mem) (hc : t.ctr = u.ctr) (he : t.events = u.events) (hp : t.policy = u.policy) :
    StoresAt as s t ws :=
  ⟨h.addresses, hm.trans h.mem, hc.trans h.ctr, he.trans h.events, hp.trans h.policy⟩

theorem modifyLoc_stores {x : Loc8} {rf : Byte × Flags} {len : Word} (h : modifyLoc x rf len s = .next t) :
    ∃ ws, StoresAt (storesAt s x) s t ws := by
  obtain ⟨u, hu, h⟩ := andThen_eq_next.1 h
  obtain ⟨ws, hw⟩ := writeLoc_stores hu
  cases h
  exact ⟨ws, hw.trans rfl rfl rfl rfl⟩

theorem resOn_stores {b : BitIdx} {x : Loc8} (h : resOn b x s = .next t) :
    ∃ ws, StoresAt (storesAt s x) s t ws := by
  obtain ⟨u, hu, h⟩ := andThen_eq_next.1 h
  obtain ⟨ws, hw⟩ := writeLoc_stores hu
  cases h
  exact ⟨ws, hw.trans rfl rfl rfl rfl⟩

theorem setOn_stores {b : BitIdx} {x : Loc8} (h : setOn b x s = .next t) :
    ∃ ws, StoresAt (storesAt s x) s t ws := by
  obtain ⟨u, hu, h⟩ := andThen_eq_next.1 h
  obtain ⟨ws, hw⟩ := writeLoc_stores hu
  cases h
  exact ⟨ws, hw.trans rfl rfl rfl rfl⟩

theorem loadPair_stores {p : Pair} {v len : Word} (h : loadPair p v len s = .next t) :
    ∃ ws, StoresAt [] s t ws := by
  cases h
  exact ⟨[], .none (by simp) (by simp) (by simp) (by simp)⟩

theorem addHL_stores {p : Pair} (h : addHL p s = .next t) : ∃ ws, StoresAt [] s t ws := by
  cases h
  exact ⟨[], .none rfl rfl rfl rfl⟩

theorem push16_stores {v : Word} (h : push16 v s = .next t) : ∃ ws, StoresAt [s.sp - 1, s.sp - 2] s t ws := by
  cases push16_next h
  exact ⟨[(s.sp - 1, hiByte v), (s.sp - 2, loByte v)], rfl, rfl, rfl, rfl, by simp [pushed]⟩

theorem pushPair_stores {p : StackPair} (h : pushPair p s = .next t) :
    ∃ ws, StoresAt [s.sp - 1, s.sp - 2] s t ws := by
  obtain ⟨u, hu, h⟩ := andThen_eq_next.1 h
  obtain ⟨ws, hw⟩ := push16_stores hu
  cases h
  exact ⟨ws, hw.trans rfl rfl rfl rfl⟩

theorem popPair_stores {p : StackPair} (h : popPair p s = .next t) : ∃ ws, StoresAt [] s t ws := by
  cases h
  exact ⟨[], .none (by simp [popState]) (by simp [popState]) (by simp [popState]) (by simp [popState])⟩

theorem jumpIf_stores {c : Bool} {target len : Word} (h : jumpIf c target len s = .next t) :
    ∃ ws, StoresAt [] s t ws := by
  cases h
  cases c <;> exact ⟨[], .none rfl rfl rfl rfl⟩

theorem callTo_stores {target len : Word} (h : callTo target len s = .next t) :
    ∃ ws, StoresAt [s.sp - 1, s.sp - 2] s t ws := by
  obtain ⟨u, hu, h⟩ := andThen_eq_next.1 h
  obtain ⟨ws, hw⟩ := push16_stores hu
  cases h
  exact ⟨ws, hw.trans rfl rfl rfl rfl⟩

theorem callIf_stores {c : Bool} {target : Word} (h : callIf c target s = .next t) :
    ∃ ws, StoresAt (if c then [s.sp - 1, s.sp - 2] else []) s t ws := by
  cases c with
  | true => exact callTo_stores h
  | false =>
    cases h
    exact ⟨[], .none rfl rfl rfl rfl⟩

theorem returnIf_stores {c : Bool} (h : returnIf c s = .next t) : ∃ ws, StoresAt [] s t ws := by
  cases c <;> cases h <;> exact ⟨[], .none rfl rfl rfl rfl⟩

/-- An illegal opcode stores nothing; under the permissive policy it reports itself. -/
theorem illegalOn_next {k : IllegalOp} (h : illegalOn k s = .next t) :
    s.policy.illegalOpcode = .permissive ∧ t = (s.emit (.illegalOpcode k.opcode s.pc)).advance 1 := by
  unfold illegalOn at h
  split at h
  · next hp => cases h; exact ⟨hp, rfl⟩
  · cases h

theorem exec_stop_stores {pad : Byte} (h : exec_stop pad s = .next t) : ∃ ws, StoresAt [] s t ws := by
  unfold exec_stop at h
  split at h
  · cases h; exact ⟨[], .none rfl rfl rfl rfl⟩
  · cases h

theorem storeSp_stores {a16 : Word} (h : andThen (busWrite16 a16 s.sp s) (fun t => .next (t.advance 3)) = .next t) :
    ∃ ws, StoresAt [a16, a16 + 1] s t ws := by
  obtain ⟨u, hu, h⟩ := andThen_eq_next.1 h
  obtain ⟨v, hv, hu⟩ := andThen_eq_next.1 hu
  cases busWrite_next hv
  cases busWrite_next hu
  cases h
  exact ⟨[(a16, loByte s.sp), (a16 + 1, hiByte s.sp)], rfl, rfl, rfl, rfl, by simp⟩

end Shapes

/-- The instruction behind the prefix byte, for `exec_stores`. -/
theorem cbInstr_stores {sub : Byte} {s t : State} (h : exec (cbInstr sub) s = .next t) :
    ∃ ws, StoresAt ((cbInstr sub).storeAddresses s) s t ws := by
  unfold cbInstr at h ⊢
  split at h <;> simp only [exec_rotLoc, exec_bitLoc, exec_resLoc, exec_setLoc] at h
  · simpa using modifyLoc_stores h
  · simpa using flagsOnly_stores h
  · simpa using resOn_stores h
  · simpa using setOn_stores h

/-- Everything an instruction other than the illegal ones can do to memory, the counter, the events and the policy:
bus writes at its store addresses, in order. -/
theorem exec_stores (i : Instr) (hi : ∀ k, i ≠ .illegalRow k) (s t : State) (h : exec i s = .next t) :
    ∃ ws, StoresAt (i.storeAddresses s) s t ws := by
  cases i using Instr.byFamily
  case h_illegalRow k => exact absurd rfl (hi k)
  case h_prefixCb =>
    rw [exec_row_prefixCb] at h
    rw [← exec_cbInstr] at h
    have := cbInstr_stores h
    rwa [Instr.storeAddresses_cbInstr] at this
  case h_stop pad => rw [exec_row_stop] at h; simpa using exec_stop_stores h
  case h_ld_ma16_SP a16 => rw [exec_row_ld_ma16_SP] at h; simpa using storeSp_stores h
  case h_ldRegReg d r => rw [exec_ldRegReg] at h; simpa using loadReg_stores h
  case h_ldRegImm d v => rw [exec_ldRegImm] at h; simpa using loadReg_stores h
  case h_ldRegHL d => rw [exec_ldRegHL] at h; simpa using loadReg_stores h
  case h_ldHLReg r => rw [exec_ldHLReg] at h; simpa using storeByte_stores h
  case h_ldPairImm p v => rw [exec_ldPairImm] at h; simpa using loadPair_stores h
  case h_pushRow p => rw [exec_pushRow] at h; simpa using pushPair_stores h
  case h_popRow p => rw [exec_popRow] at h; simpa using popPair_stores h
  case h_aluLoc op x => rw [exec_aluLoc] at h; simpa using aluOn_stores h
  case h_aluImm op v => rw [exec_aluImm] at h; simpa using aluOn_stores h
  case h_incLoc x => rw [exec_incLoc] at h; simpa using modifyLoc_stores h
  case h_decLoc x => rw [exec_decLoc] at h; simpa using modifyLoc_stores h
  case h_addHLPair p => rw [exec_addHLPair] at h; simpa using addHL_stores h
  case h_incPair p => rw [exec_incPair] at h; simpa using loadPair_stores h
  case h_decPair p => rw [exec_decPair] at h; simpa using loadPair_stores h
  case h_rotLoc op x => rw [exec_rotLoc] at h; simpa using modifyLoc_stores h
  case h_bitLoc b x => rw [exec_bitLoc] at h; simpa using flagsOnly_stores h
  case h_resLoc b x => rw [exec_resLoc] at h; simpa using resOn_stores h
  case h_setLoc b x => rw [exec_setLoc] at h; simpa using setOn_stores h
  case h_jpCond cc v => rw [exec_jpCond] at h; simpa using jumpIf_stores h
  case h_jrCond cc v => rw [exec_jrCond] at h; simpa using jumpIf_stores h
  case h_callCond cc v => rw [exec_callCond] at h; simpa using callIf_stores h
  case h_retCond cc => rw [exec_retCond] at h; simpa using returnIf_stores h
  case h_rstRow t => rw [exec_rstRow] at h; simpa using callTo_stores h
  case h_nop => rw [exec_row_nop] at h; cases h; exact ⟨[], .none rfl rfl rfl rfl⟩
  case h_ld_mBC_A => rw [exec_row_ld_mBC_A] at h; simpa using storeByte_stores h
  case h_rlca => rw [exec_row_rlca] at h; simpa using accResult_stores h
  case h_ld_A_mBC => rw [exec_row_ld_A_mBC] at h; simpa using loadReg_stores h
  case h_rrca => rw [exec_row_rrca] at h; simpa using accResult_stores h
  case h_ld_mDE_A => rw [exec_row_ld_mDE_A] at h; simpa using storeByte_stores h
  case h_rla => rw [exec_row_rla] at h; simpa using accResult_stores h
  case h_jr_r8 r8 => rw [exec_row_jr_r8] at h; cases h; exact ⟨[], .none rfl rfl rfl rfl⟩
  case h_ld_A_mDE => rw [exec_row_ld_A_mDE] at h; simpa using loadReg_stores h
  case h_rra => rw [exec_row_rra] at h; simpa using accResult_stores h
  case h_ld_mHLi_A => rw [exec_row_ld_mHLi_A] at h; simpa using storeAStepHL_stores h
  case h_daa => rw [exec_row_daa] at h; simpa using accResult_stores h
  case h_ld_A_mHLi => rw [exec_row_ld_A_mHLi] at h; simpa using loadAStepHL_stores h
  case h_cpl => rw [exec_row_cpl] at h; simpa using accResult_stores h
  case h_ld_mHLd_A => rw [exec_row_ld_mHLd_A] at h; simpa using storeAStepHL_stores h
  case h_ld_mHL_d8 d8 => rw [exec_row_ld_mHL_d8] at h; simpa using storeByte_stores h
  case h_scf => rw [exec_row_scf] at h; simpa using flagsOnly_stores h
  case h_ld_A_mHLd => rw [exec_row_ld_A_mHLd] at h; simpa using loadAStepHL_stores h
  case h_ccf => rw [exec_row_ccf] at h; simpa using flagsOnly_stores h
  case h_halt => rw [exec_row_halt] at h; cases h; exact ⟨[], .none rfl rfl rfl rfl⟩
  case h_jp_a16 a16 => rw [exec_row_jp_a16] at h; cases h; exact ⟨[], .none rfl rfl rfl rfl⟩
  case h_ret => rw [exec_row_ret] at h; cases h; exact ⟨[], .none rfl rfl rfl rfl⟩
  case h_call_a16 a16 => rw [exec_row_call_a16] at h; simpa using callTo_stores h
  case h_reti => rw [exec_row_reti] at h; cases h; exact ⟨[], .none rfl rfl rfl rfl⟩
  case h_ldh_ma8_A a8 => rw [exec_row_ldh_ma8_A] at h; simpa using storeByte_stores h
  case h_ld_mC_A => rw [exec_row_ld_mC_A] at h; simpa using storeByte_stores h
  case h_add_SP_r8 r8 => rw [exec_row_add_SP_r8] at h; cases h; exact ⟨[], .none rfl rfl rfl rfl⟩
  case h_jp_mHL => rw [exec_row_jp_mHL] at h; cases h; exact ⟨[], .none rfl rfl rfl rfl⟩
  case h_ld_ma16_A a16 => rw [exec_row_ld_ma16_A] at h; simpa using storeByte_stores h
  case h_ldh_A_ma8 a8 => rw [exec_row_ldh_A_ma8] at h; simpa using loadReg_stores h
  case h_ld_A_mC => rw [exec_row_ld_A_mC] at h; simpa using loadReg_stores h
  case h_di => rw [exec_row_di] at h; cases h; exact ⟨[], .none rfl rfl rfl rfl⟩
  case h_ld_HL_SPr8 r8 => rw [exec_row_ld_HL_SPr8] at h; cases h; exact ⟨[], .none rfl rfl rfl rfl⟩
  case h_ld_SP_HL => rw [exec_row_ld_SP_HL] at h; cases h; exact ⟨[], .none rfl rfl rfl rfl⟩
  case h_ld_A_ma16 a16 => rw [exec_row_ld_A_ma16] at h; simpa using loadReg_stores h
  case h_ei => rw [exec_row_ei] at h; cases h; exact ⟨[], .none rfl rfl rfl rfl⟩

end Sys2Proof.Machine
end

