-- ==== Sys2Proof/Laws/Outside.lean ====
section
/-! SUPPORT. The host's operations keep the canonical form of memory, and what a reset with parameters leaves
(70_reset_and_hazards R302, R306, R307). -/

namespace Sys2Proof.Machine

/-- Placing an image that ends within the address space keeps the canonical form. -/
theorem placeImage_wf (image : List Byte) (n : Nat) (m : Memory) (hn : n + image.length ≤ 0x10000) (hm : m.wf = true) :
    (placeImage image n m).wf = true := by
  induction image generalizing n m with
  | nil => exact hm
  | cons v image ih =>
    have h : n + (image.length + 1) ≤ 0x10000 := hn
    exact ih (n + 1) _ (by omega) (Memory.wf_write v (by omega) hm)

theorem hostWrite_wf (a : Word) (v : Byte) {s : State} (h : s.mem.wf = true) : (hostWrite a v s).mem.wf = true :=
  State.wf_poke a v h

theorem hostWrites_wf (cells : List (Word × Byte)) {s : State} (h : s.mem.wf = true) :
    (hostWrites cells s).mem.wf = true := by
  induction cells generalizing s with
  | nil => exact h
  | cons c cells ih => exact ih (hostWrite_wf c.1 c.2 h)

/-- Host writes change memory only. -/
theorem hostWrites_frame (cells : List (Word × Byte)) (s : State) :
    hostWrites cells s = s.setMem (hostWrites cells s).mem := by
  induction cells generalizing s with
  | nil => rfl
  | cons c cells ih => exact ih (hostWrite c.1 c.2 s)

/-- An address that no listed write names reads as before. -/
theorem peek_hostWrites_other {cells : List (Word × Byte)} (s : State) {a : Word} (h : ∀ c ∈ cells, c.1 ≠ a) :
    (hostWrites cells s).peek a = s.peek a := by
  induction cells generalizing s with
  | nil => rfl
  | cons c cells ih =>
    have hc : a ≠ c.1 := fun e => h c (.head _) e.symm
    exact (ih (hostWrite c.1 c.2 s) fun d hd => h d (.tail _ hd)).trans (State.peek_poke_other s hc c.2)

/-- The last listed write to an address is what it reads as. -/
theorem peek_hostWrites_last {later : List (Word × Byte)} (earlier : List (Word × Byte)) (s : State) {a : Word}
    (v : Byte) (h : ∀ c ∈ later, c.1 ≠ a) : (hostWrites (earlier ++ (a, v) :: later) s).peek a = v := by
  have split : hostWrites (earlier ++ (a, v) :: later) s = hostWrites later (hostWrite a v (hostWrites earlier s)) := by
    simp only [hostWrites, List.foldl_append, List.foldl_cons]
  rw [split, peek_hostWrites_other _ h]
  exact State.peek_poke_same _ a v

theorem resetWith_wf (p : ResetParams) : (resetWith p).mem.wf = true := hostWrites_wf _ rfl

/-- A reset with parameters is the default reset but for the entry point, the policies and memory. -/
theorem resetWith_frame (p : ResetParams) :
    resetWith p = { State.reset with pc := p.pc.address, policy := p.policy, mem := (resetWith p).mem } :=
  hostWrites_frame _ _

theorem resetWith_default : resetWith ResetParams.default = State.reset := rfl

/-- Where `RESET_IO` has no say, a reset with parameters leaves what the default leaves. -/
theorem resetWith_peek_other (p : ResetParams) {a : Word} (h : inResetIo a = false) :
    (resetWith p).peek a = State.reset.peek a := by
  refine peek_hostWrites_other _ fun c hc e => ?_
  have hin : inResetIo c.1 = true := (List.mem_filter.mp hc).2
  rw [e, h] at hin
  cases hin

/-- R302: whatever `RESET_IO` is passed, DIV is zero. -/
theorem resetWith_div (p : ResetParams) : (resetWith p).peek Addr.div = 0 := resetWith_peek_other p rfl

theorem resetWith_ctr (p : ResetParams) : (resetWith p).ctr = 0 := by rw [resetWith_frame]; rfl

/-- R302: whatever `RESET_IO` is passed, DIV = ctr[15:8]. -/
theorem resetWith_divMirrors (p : ResetParams) : (resetWith p).divMirrors := by
  rw [State.divMirrors, resetWith_div, resetWith_ctr]
  rfl

/-- R302: `initialize()` leaves the bytes below 0x8000 zero. -/
theorem resetWith_rom (p : ResetParams) {a : Word} (h : a.toNat < 0x8000) : (resetWith p).peek a = 0 := by
  have hio : inResetIo a = false := by simp [inResetIo, Nat.not_le.mpr h]
  have hne : a.toNat ≠ 0xFF00 := by omega
  rw [resetWith_peek_other p hio]
  exact if_neg hne

/-- R302: a byte of `RESET_IO` is held; of several at one address, the last. -/
theorem resetWith_io (p : ResetParams) {a : Word} {v : Byte} {earlier later : List (Word × Byte)}
    (hio : p.io = earlier ++ (a, v) :: later) (h : inResetIo a = true) (hl : ∀ c ∈ later, c.1 ≠ a) :
    (resetWith p).peek a = v := by
  rw [resetWith, hio, List.filter_append, List.filter_cons_of_pos (by exact h)]
  exact peek_hostWrites_last _ _ v fun c hc => hl c (List.mem_filter.mp hc).1

/-- Everything load can answer. -/
theorem load_cases (image : List Byte) (s : State) :
    (image.length ≤ Config.romBytes ∧ load image s = .next (s.setMem (placeImage image 0 s.mem))) ∨
    (Config.romBytes < image.length ∧ load image s = .refused .romImageTooLarge) := by
  unfold load
  split
  · next h => exact .inl ⟨h, rfl⟩
  · next h => exact .inr ⟨by omega, rfl⟩

theorem load_wf {image : List Byte} {s t : State} (hs : s.mem.wf = true) (h : load image s = .next t) :
    t.mem.wf = true := by
  rcases load_cases image s with ⟨hl, h'⟩ | ⟨-, h'⟩
  · rw [h'] at h
    cases h
    exact placeImage_wf image 0 s.mem (by simp only [Config.romBytes] at hl; omega) hs
  · rw [h'] at h
    cases h

/-- An image leaves every byte outside it as it was. -/
theorem placeImage_read_outside (image : List Byte) (n : Nat) (m : Memory) {b : Nat} (h : b < n ∨ n + image.length ≤ b) :
    (placeImage image n m).read b = m.read b := by
  induction image generalizing n m with
  | nil => rfl
  | cons v image ih =>
    have hl : (v :: image).length = image.length + 1 := rfl
    exact (ih (n + 1) _ (by omega)).trans (Memory.read_write_other m (by omega) v)

/-- Byte `k` of an image is at address `k` past its start. -/
theorem placeImage_read_inside (image : List Byte) (n : Nat) (m : Memory) {k : Nat} (h : k < image.length) :
    (placeImage image n m).read (n + k) = image[k] := by
  induction image generalizing n m k with
  | nil => cases h
  | cons v image ih =>
    cases k with
    | zero => exact (placeImage_read_outside image (n + 1) _ (.inl (by omega))).trans (Memory.read_write_same m n v)
    | succ k =>
      have hk : k < image.length := by simpa using h
      have := ih (n + 1) (m.write n v) hk
      rwa [Nat.add_right_comm] at this

/-- R302: at the first step the ROM image is in place, zero beyond its end, every other byte is as `initialize()`
left it, and DIV mirrors the counter. -/
theorem startWith_next {p : ResetParams} {image : List Byte} {t : State} (h : startWith p image = .next t) :
    t.mem.wf = true ∧ t.divMirrors ∧
    (∀ (k : Nat) (hk : k < image.length), t.mem.read k = image[k]) ∧
    (∀ a : Word, image.length ≤ a.toNat → a.toNat < 0x8000 → t.peek a = 0) ∧
    (∀ a : Word, 0x8000 ≤ a.toNat → t.peek a = (resetWith p).peek a) ∧
    t = (resetWith p).setMem t.mem := by
  rcases load_cases image (resetWith p) with ⟨hl, h'⟩ | ⟨-, h'⟩
  · have hwf : t.mem.wf = true := load_wf (resetWith_wf p) h
    rw [startWith, h'] at h
    cases h
    simp only [Config.romBytes] at hl
    have outside (a : Word) (ha : image.length ≤ a.toNat) :
        ((resetWith p).setMem (placeImage image 0 (resetWith p).mem)).peek a = (resetWith p).peek a :=
      placeImage_read_outside image 0 _ (.inr (by omega))
    refine ⟨hwf, (outside Addr.div ?_).trans (resetWith_divMirrors p), fun k hk => ?_, fun a ha hr => ?_, fun a ha => ?_, rfl⟩
    · exact hl.trans (by decide)
    · have := placeImage_read_inside image 0 (resetWith p).mem hk
      rwa [Nat.zero_add] at this
    · rw [outside a ha, resetWith_rom p hr]
    · exact outside a (by omega)
  · rw [startWith, h'] at h
    cases h

end Sys2Proof.Machine
end

