-- ==== Sys2Proof/Laws/PerInstr.lean ====
section
/-! SUPPORT. Families of facts with one lemma per instruction. -/

namespace Sys2Proof.Laws.EncodedLength

/-- The encoder writes as many bytes as the format of the row has (30_encoding R71). -/
def Statement (i : Instr) : Prop := (encode i).length = i.length

theorem nop : Statement (.nop) := rfl
theorem ld_BC_d16 (d16 : Word) : Statement (.ld_BC_d16 d16) := rfl
theorem ld_mBC_A : Statement (.ld_mBC_A) := rfl
theorem inc_BC : Statement (.inc_BC) := rfl
theorem inc_B : Statement (.inc_B) := rfl
theorem dec_B : Statement (.dec_B) := rfl
theorem ld_B_d8 (d8 : Byte) : Statement (.ld_B_d8 d8) := rfl
theorem rlca : Statement (.rlca) := rfl
theorem ld_ma16_SP (a16 : Word) : Statement (.ld_ma16_SP a16) := rfl
theorem add_HL_BC : Statement (.add_HL_BC) := rfl
theorem ld_A_mBC : Statement (.ld_A_mBC) := rfl
theorem dec_BC : Statement (.dec_BC) := rfl
theorem inc_C : Statement (.inc_C) := rfl
theorem dec_C : Statement (.dec_C) := rfl
theorem ld_C_d8 (d8 : Byte) : Statement (.ld_C_d8 d8) := rfl
theorem rrca : Statement (.rrca) := rfl
theorem stop (pad : Byte) : Statement (.stop pad) := rfl
theorem ld_DE_d16 (d16 : Word) : Statement (.ld_DE_d16 d16) := rfl
theorem ld_mDE_A : Statement (.ld_mDE_A) := rfl
theorem inc_DE : Statement (.inc_DE) := rfl
theorem inc_D : Statement (.inc_D) := rfl
theorem dec_D : Statement (.dec_D) := rfl
theorem ld_D_d8 (d8 : Byte) : Statement (.ld_D_d8 d8) := rfl
theorem rla : Statement (.rla) := rfl
theorem jr_r8 (r8 : Byte) : Statement (.jr_r8 r8) := rfl
theorem add_HL_DE : Statement (.add_HL_DE) := rfl
theorem ld_A_mDE : Statement (.ld_A_mDE) := rfl
theorem dec_DE : Statement (.dec_DE) := rfl
theorem inc_E : Statement (.inc_E) := rfl
theorem dec_E : Statement (.dec_E) := rfl
theorem ld_E_d8 (d8 : Byte) : Statement (.ld_E_d8 d8) := rfl
theorem rra : Statement (.rra) := rfl
theorem jr_NZ_r8 (r8 : Byte) : Statement (.jr_NZ_r8 r8) := rfl
theorem ld_HL_d16 (d16 : Word) : Statement (.ld_HL_d16 d16) := rfl
theorem ld_mHLi_A : Statement (.ld_mHLi_A) := rfl
theorem inc_HL : Statement (.inc_HL) := rfl
theorem inc_H : Statement (.inc_H) := rfl
theorem dec_H : Statement (.dec_H) := rfl
theorem ld_H_d8 (d8 : Byte) : Statement (.ld_H_d8 d8) := rfl
theorem daa : Statement (.daa) := rfl
theorem jr_Z_r8 (r8 : Byte) : Statement (.jr_Z_r8 r8) := rfl
theorem add_HL_HL : Statement (.add_HL_HL) := rfl
theorem ld_A_mHLi : Statement (.ld_A_mHLi) := rfl
theorem dec_HL : Statement (.dec_HL) := rfl
theorem inc_L : Statement (.inc_L) := rfl
theorem dec_L : Statement (.dec_L) := rfl
theorem ld_L_d8 (d8 : Byte) : Statement (.ld_L_d8 d8) := rfl
theorem cpl : Statement (.cpl) := rfl
theorem jr_NC_r8 (r8 : Byte) : Statement (.jr_NC_r8 r8) := rfl
theorem ld_SP_d16 (d16 : Word) : Statement (.ld_SP_d16 d16) := rfl
theorem ld_mHLd_A : Statement (.ld_mHLd_A) := rfl
theorem inc_SP : Statement (.inc_SP) := rfl
theorem inc_mHL : Statement (.inc_mHL) := rfl
theorem dec_mHL : Statement (.dec_mHL) := rfl
theorem ld_mHL_d8 (d8 : Byte) : Statement (.ld_mHL_d8 d8) := rfl
theorem scf : Statement (.scf) := rfl
theorem jr_C_r8 (r8 : Byte) : Statement (.jr_C_r8 r8) := rfl
theorem add_HL_SP : Statement (.add_HL_SP) := rfl
theorem ld_A_mHLd : Statement (.ld_A_mHLd) := rfl
theorem dec_SP : Statement (.dec_SP) := rfl
theorem inc_A : Statement (.inc_A) := rfl
theorem dec_A : Statement (.dec_A) := rfl
theorem ld_A_d8 (d8 : Byte) : Statement (.ld_A_d8 d8) := rfl
theorem ccf : Statement (.ccf) := rfl
theorem ld_B_B : Statement (.ld_B_B) := rfl
theorem ld_B_C : Statement (.ld_B_C) := rfl
theorem ld_B_D : Statement (.ld_B_D) := rfl
theorem ld_B_E : Statement (.ld_B_E) := rfl
theorem ld_B_H : Statement (.ld_B_H) := rfl
theorem ld_B_L : Statement (.ld_B_L) := rfl
theorem ld_B_mHL : Statement (.ld_B_mHL) := rfl
theorem ld_B_A : Statement (.ld_B_A) := rfl
theorem ld_C_B : Statement (.ld_C_B) := rfl
theorem ld_C_C : Statement (.ld_C_C) := rfl
theorem ld_C_D : Statement (.ld_C_D) := rfl
theorem ld_C_E : Statement (.ld_C_E) := rfl
theorem ld_C_H : Statement (.ld_C_H) := rfl
theorem ld_C_L : Statement (.ld_C_L) := rfl
theorem ld_C_mHL : Statement (.ld_C_mHL) := rfl
theorem ld_C_A : Statement (.ld_C_A) := rfl
theorem ld_D_B : Statement (.ld_D_B) := rfl
theorem ld_D_C : Statement (.ld_D_C) := rfl
theorem ld_D_D : Statement (.ld_D_D) := rfl
theorem ld_D_E : Statement (.ld_D_E) := rfl
theorem ld_D_H : Statement (.ld_D_H) := rfl
theorem ld_D_L : Statement (.ld_D_L) := rfl
theorem ld_D_mHL : Statement (.ld_D_mHL) := rfl
theorem ld_D_A : Statement (.ld_D_A) := rfl
theorem ld_E_B : Statement (.ld_E_B) := rfl
theorem ld_E_C : Statement (.ld_E_C) := rfl
theorem ld_E_D : Statement (.ld_E_D) := rfl
theorem ld_E_E : Statement (.ld_E_E) := rfl
theorem ld_E_H : Statement (.ld_E_H) := rfl
theorem ld_E_L : Statement (.ld_E_L) := rfl
theorem ld_E_mHL : Statement (.ld_E_mHL) := rfl
theorem ld_E_A : Statement (.ld_E_A) := rfl
theorem ld_H_B : Statement (.ld_H_B) := rfl
theorem ld_H_C : Statement (.ld_H_C) := rfl
theorem ld_H_D : Statement (.ld_H_D) := rfl
theorem ld_H_E : Statement (.ld_H_E) := rfl
theorem ld_H_H : Statement (.ld_H_H) := rfl
theorem ld_H_L : Statement (.ld_H_L) := rfl
theorem ld_H_mHL : Statement (.ld_H_mHL) := rfl
theorem ld_H_A : Statement (.ld_H_A) := rfl
theorem ld_L_B : Statement (.ld_L_B) := rfl
theorem ld_L_C : Statement (.ld_L_C) := rfl
theorem ld_L_D : Statement (.ld_L_D) := rfl
theorem ld_L_E : Statement (.ld_L_E) := rfl
theorem ld_L_H : Statement (.ld_L_H) := rfl
theorem ld_L_L : Statement (.ld_L_L) := rfl
theorem ld_L_mHL : Statement (.ld_L_mHL) := rfl
theorem ld_L_A : Statement (.ld_L_A) := rfl
theorem ld_mHL_B : Statement (.ld_mHL_B) := rfl
theorem ld_mHL_C : Statement (.ld_mHL_C) := rfl
theorem ld_mHL_D : Statement (.ld_mHL_D) := rfl
theorem ld_mHL_E : Statement (.ld_mHL_E) := rfl
theorem ld_mHL_H : Statement (.ld_mHL_H) := rfl
theorem ld_mHL_L : Statement (.ld_mHL_L) := rfl
theorem halt : Statement (.halt) := rfl
theorem ld_mHL_A : Statement (.ld_mHL_A) := rfl
theorem ld_A_B : Statement (.ld_A_B) := rfl
theorem ld_A_C : Statement (.ld_A_C) := rfl
theorem ld_A_D : Statement (.ld_A_D) := rfl
theorem ld_A_E : Statement (.ld_A_E) := rfl
theorem ld_A_H : Statement (.ld_A_H) := rfl
theorem ld_A_L : Statement (.ld_A_L) := rfl
theorem ld_A_mHL : Statement (.ld_A_mHL) := rfl
theorem ld_A_A : Statement (.ld_A_A) := rfl
theorem add_A_B : Statement (.add_A_B) := rfl
theorem add_A_C : Statement (.add_A_C) := rfl
theorem add_A_D : Statement (.add_A_D) := rfl
theorem add_A_E : Statement (.add_A_E) := rfl
theorem add_A_H : Statement (.add_A_H) := rfl
theorem add_A_L : Statement (.add_A_L) := rfl
theorem add_A_mHL : Statement (.add_A_mHL) := rfl
theorem add_A_A : Statement (.add_A_A) := rfl
theorem adc_A_B : Statement (.adc_A_B) := rfl
theorem adc_A_C : Statement (.adc_A_C) := rfl
theorem adc_A_D : Statement (.adc_A_D) := rfl
theorem adc_A_E : Statement (.adc_A_E) := rfl
theorem adc_A_H : Statement (.adc_A_H) := rfl
theorem adc_A_L : Statement (.adc_A_L) := rfl
theorem adc_A_mHL : Statement (.adc_A_mHL) := rfl
theorem adc_A_A : Statement (.adc_A_A) := rfl
theorem sub_B : Statement (.sub_B) := rfl
theorem sub_C : Statement (.sub_C) := rfl
theorem sub_D : Statement (.sub_D) := rfl
theorem sub_E : Statement (.sub_E) := rfl
theorem sub_H : Statement (.sub_H) := rfl
theorem sub_L : Statement (.sub_L) := rfl
theorem sub_mHL : Statement (.sub_mHL) := rfl
theorem sub_A : Statement (.sub_A) := rfl
theorem sbc_A_B : Statement (.sbc_A_B) := rfl
theorem sbc_A_C : Statement (.sbc_A_C) := rfl
theorem sbc_A_D : Statement (.sbc_A_D) := rfl
theorem sbc_A_E : Statement (.sbc_A_E) := rfl
theorem sbc_A_H : Statement (.sbc_A_H) := rfl
theorem sbc_A_L : Statement (.sbc_A_L) := rfl
theorem sbc_A_mHL : Statement (.sbc_A_mHL) := rfl
theorem sbc_A_A : Statement (.sbc_A_A) := rfl
theorem and_B : Statement (.and_B) := rfl
theorem and_C : Statement (.and_C) := rfl
theorem and_D : Statement (.and_D) := rfl
theorem and_E : Statement (.and_E) := rfl
theorem and_H : Statement (.and_H) := rfl
theorem and_L : Statement (.and_L) := rfl
theorem and_mHL : Statement (.and_mHL) := rfl
theorem and_A : Statement (.and_A) := rfl
theorem xor_B : Statement (.xor_B) := rfl
theorem xor_C : Statement (.xor_C) := rfl
theorem xor_D : Statement (.xor_D) := rfl
theorem xor_E : Statement (.xor_E) := rfl
theorem xor_H : Statement (.xor_H) := rfl
theorem xor_L : Statement (.xor_L) := rfl
theorem xor_mHL : Statement (.xor_mHL) := rfl
theorem xor_A : Statement (.xor_A) := rfl
theorem or_B : Statement (.or_B) := rfl
theorem or_C : Statement (.or_C) := rfl
theorem or_D : Statement (.or_D) := rfl
theorem or_E : Statement (.or_E) := rfl
theorem or_H : Statement (.or_H) := rfl
theorem or_L : Statement (.or_L) := rfl
theorem or_mHL : Statement (.or_mHL) := rfl
theorem or_A : Statement (.or_A) := rfl
theorem cp_B : Statement (.cp_B) := rfl
theorem cp_C : Statement (.cp_C) := rfl
theorem cp_D : Statement (.cp_D) := rfl
theorem cp_E : Statement (.cp_E) := rfl
theorem cp_H : Statement (.cp_H) := rfl
theorem cp_L : Statement (.cp_L) := rfl
theorem cp_mHL : Statement (.cp_mHL) := rfl
theorem cp_A : Statement (.cp_A) := rfl
theorem ret_NZ : Statement (.ret_NZ) := rfl
theorem pop_BC : Statement (.pop_BC) := rfl
theorem jp_NZ_a16 (a16 : Word) : Statement (.jp_NZ_a16 a16) := rfl
theorem jp_a16 (a16 : Word) : Statement (.jp_a16 a16) := rfl
theorem call_NZ_a16 (a16 : Word) : Statement (.call_NZ_a16 a16) := rfl
theorem push_BC : Statement (.push_BC) := rfl
theorem add_A_d8 (d8 : Byte) : Statement (.add_A_d8 d8) := rfl
theorem rst_00 : Statement (.rst_00) := rfl
theorem ret_Z : Statement (.ret_Z) := rfl
theorem ret : Statement (.ret) := rfl
theorem jp_Z_a16 (a16 : Word) : Statement (.jp_Z_a16 a16) := rfl
theorem prefixCb : Statement (.prefixCb) := rfl
theorem call_Z_a16 (a16 : Word) : Statement (.call_Z_a16 a16) := rfl
theorem call_a16 (a16 : Word) : Statement (.call_a16 a16) := rfl
theorem adc_A_d8 (d8 : Byte) : Statement (.adc_A_d8 d8) := rfl
theorem rst_08 : Statement (.rst_08) := rfl
theorem ret_NC : Statement (.ret_NC) := rfl
theorem pop_DE : Statement (.pop_DE) := rfl
theorem jp_NC_a16 (a16 : Word) : Statement (.jp_NC_a16 a16) := rfl
theorem illegal_D3 : Statement (.illegal_D3) := rfl
theorem call_NC_a16 (a16 : Word) : Statement (.call_NC_a16 a16) := rfl
theorem push_DE : Statement (.push_DE) := rfl
theorem sub_d8 (d8 : Byte) : Statement (.sub_d8 d8) := rfl
theorem rst_10 : Statement (.rst_10) := rfl
theorem ret_C : Statement (.ret_C) := rfl
theorem reti : Statement (.reti) := rfl
theorem jp_C_a16 (a16 : Word) : Statement (.jp_C_a16 a16) := rfl
theorem illegal_DB : Statement (.illegal_DB) := rfl
theorem call_C_a16 (a16 : Word) : Statement (.call_C_a16 a16) := rfl
theorem illegal_DD : Statement (.illegal_DD) := rfl
theorem sbc_A_d8 (d8 : Byte) : Statement (.sbc_A_d8 d8) := rfl
theorem rst_18 : Statement (.rst_18) := rfl
theorem ldh_ma8_A (a8 : Byte) : Statement (.ldh_ma8_A a8) := rfl
theorem pop_HL : Statement (.pop_HL) := rfl
theorem ld_mC_A : Statement (.ld_mC_A) := rfl
theorem illegal_E3 : Statement (.illegal_E3) := rfl
theorem illegal_E4 : Statement (.illegal_E4) := rfl
theorem push_HL : Statement (.push_HL) := rfl
theorem and_d8 (d8 : Byte) : Statement (.and_d8 d8) := rfl
theorem rst_20 : Statement (.rst_20) := rfl
theorem add_SP_r8 (r8 : Byte) : Statement (.add_SP_r8 r8) := rfl
theorem jp_mHL : Statement (.jp_mHL) := rfl
theorem ld_ma16_A (a16 : Word) : Statement (.ld_ma16_A a16) := rfl
theorem illegal_EB : Statement (.illegal_EB) := rfl
theorem illegal_EC : Statement (.illegal_EC) := rfl
theorem illegal_ED : Statement (.illegal_ED) := rfl
theorem xor_d8 (d8 : Byte) : Statement (.xor_d8 d8) := rfl
theorem rst_28 : Statement (.rst_28) := rfl
theorem ldh_A_ma8 (a8 : Byte) : Statement (.ldh_A_ma8 a8) := rfl
theorem pop_AF : Statement (.pop_AF) := rfl
theorem ld_A_mC : Statement (.ld_A_mC) := rfl
theorem di : Statement (.di) := rfl
theorem illegal_F4 : Statement (.illegal_F4) := rfl
theorem push_AF : Statement (.push_AF) := rfl
theorem or_d8 (d8 : Byte) : Statement (.or_d8 d8) := rfl
theorem rst_30 : Statement (.rst_30) := rfl
theorem ld_HL_SPr8 (r8 : Byte) : Statement (.ld_HL_SPr8 r8) := rfl
theorem ld_SP_HL : Statement (.ld_SP_HL) := rfl
theorem ld_A_ma16 (a16 : Word) : Statement (.ld_A_ma16 a16) := rfl
theorem ei : Statement (.ei) := rfl
theorem illegal_FC : Statement (.illegal_FC) := rfl
theorem illegal_FD : Statement (.illegal_FD) := rfl
theorem cp_d8 (d8 : Byte) : Statement (.cp_d8 d8) := rfl
theorem rst_38 : Statement (.rst_38) := rfl
theorem rlc_B : Statement (.rlc_B) := rfl
theorem rlc_C : Statement (.rlc_C) := rfl
theorem rlc_D : Statement (.rlc_D) := rfl
theorem rlc_E : Statement (.rlc_E) := rfl
theorem rlc_H : Statement (.rlc_H) := rfl
theorem rlc_L : Statement (.rlc_L) := rfl
theorem rlc_mHL : Statement (.rlc_mHL) := rfl
theorem rlc_A : Statement (.rlc_A) := rfl
theorem rrc_B : Statement (.rrc_B) := rfl
theorem rrc_C : Statement (.rrc_C) := rfl
theorem rrc_D : Statement (.rrc_D) := rfl
theorem rrc_E : Statement (.rrc_E) := rfl
theorem rrc_H : Statement (.rrc_H) := rfl
theorem rrc_L : Statement (.rrc_L) := rfl
theorem rrc_mHL : Statement (.rrc_mHL) := rfl
theorem rrc_A : Statement (.rrc_A) := rfl
theorem rl_B : Statement (.rl_B) := rfl
theorem rl_C : Statement (.rl_C) := rfl
theorem rl_D : Statement (.rl_D) := rfl
theorem rl_E : Statement (.rl_E) := rfl
theorem rl_H : Statement (.rl_H) := rfl
theorem rl_L : Statement (.rl_L) := rfl
theorem rl_mHL : Statement (.rl_mHL) := rfl
theorem rl_A : Statement (.rl_A) := rfl
theorem rr_B : Statement (.rr_B) := rfl
theorem rr_C : Statement (.rr_C) := rfl
theorem rr_D : Statement (.rr_D) := rfl
theorem rr_E : Statement (.rr_E) := rfl
theorem rr_H : Statement (.rr_H) := rfl
theorem rr_L : Statement (.rr_L) := rfl
theorem rr_mHL : Statement (.rr_mHL) := rfl
theorem rr_A : Statement (.rr_A) := rfl
theorem sla_B : Statement (.sla_B) := rfl
theorem sla_C : Statement (.sla_C) := rfl
theorem sla_D : Statement (.sla_D) := rfl
theorem sla_E : Statement (.sla_E) := rfl
theorem sla_H : Statement (.sla_H) := rfl
theorem sla_L : Statement (.sla_L) := rfl
theorem sla_mHL : Statement (.sla_mHL) := rfl
theorem sla_A : Statement (.sla_A) := rfl
theorem sra_B : Statement (.sra_B) := rfl
theorem sra_C : Statement (.sra_C) := rfl
theorem sra_D : Statement (.sra_D) := rfl
theorem sra_E : Statement (.sra_E) := rfl
theorem sra_H : Statement (.sra_H) := rfl
theorem sra_L : Statement (.sra_L) := rfl
theorem sra_mHL : Statement (.sra_mHL) := rfl
theorem sra_A : Statement (.sra_A) := rfl
theorem swap_B : Statement (.swap_B) := rfl
theorem swap_C : Statement (.swap_C) := rfl
theorem swap_D : Statement (.swap_D) := rfl
theorem swap_E : Statement (.swap_E) := rfl
theorem swap_H : Statement (.swap_H) := rfl
theorem swap_L : Statement (.swap_L) := rfl
theorem swap_mHL : Statement (.swap_mHL) := rfl
theorem swap_A : Statement (.swap_A) := rfl
theorem srl_B : Statement (.srl_B) := rfl
theorem srl_C : Statement (.srl_C) := rfl
theorem srl_D : Statement (.srl_D) := rfl
theorem srl_E : Statement (.srl_E) := rfl
theorem srl_H : Statement (.srl_H) := rfl
theorem srl_L : Statement (.srl_L) := rfl
theorem srl_mHL : Statement (.srl_mHL) := rfl
theorem srl_A : Statement (.srl_A) := rfl
theorem bit_0_B : Statement (.bit_0_B) := rfl
theorem bit_0_C : Statement (.bit_0_C) := rfl
theorem bit_0_D : Statement (.bit_0_D) := rfl
theorem bit_0_E : Statement (.bit_0_E) := rfl
theorem bit_0_H : Statement (.bit_0_H) := rfl
theorem bit_0_L : Statement (.bit_0_L) := rfl
theorem bit_0_mHL : Statement (.bit_0_mHL) := rfl
theorem bit_0_A : Statement (.bit_0_A) := rfl
theorem bit_1_B : Statement (.bit_1_B) := rfl
theorem bit_1_C : Statement (.bit_1_C) := rfl
theorem bit_1_D : Statement (.bit_1_D) := rfl
theorem bit_1_E : Statement (.bit_1_E) := rfl
theorem bit_1_H : Statement (.bit_1_H) := rfl
theorem bit_1_L : Statement (.bit_1_L) := rfl
theorem bit_1_mHL : Statement (.bit_1_mHL) := rfl
theorem bit_1_A : Statement (.bit_1_A) := rfl
theorem bit_2_B : Statement (.bit_2_B) := rfl
theorem bit_2_C : Statement (.bit_2_C) := rfl
theorem bit_2_D : Statement (.bit_2_D) := rfl
theorem bit_2_E : Statement (.bit_2_E) := rfl
theorem bit_2_H : Statement (.bit_2_H) := rfl
theorem bit_2_L : Statement (.bit_2_L) := rfl
theorem bit_2_mHL : Statement (.bit_2_mHL) := rfl
theorem bit_2_A : Statement (.bit_2_A) := rfl
theorem bit_3_B : Statement (.bit_3_B) := rfl
theorem bit_3_C : Statement (.bit_3_C) := rfl
theorem bit_3_D : Statement (.bit_3_D) := rfl
theorem bit_3_E : Statement (.bit_3_E) := rfl
theorem bit_3_H : Statement (.bit_3_H) := rfl
theorem bit_3_L : Statement (.bit_3_L) := rfl
theorem bit_3_mHL : Statement (.bit_3_mHL) := rfl
theorem bit_3_A : Statement (.bit_3_A) := rfl
theorem bit_4_B : Statement (.bit_4_B) := rfl
theorem bit_4_C : Statement (.bit_4_C) := rfl
theorem bit_4_D : Statement (.bit_4_D) := rfl
theorem bit_4_E : Statement (.bit_4_E) := rfl
theorem bit_4_H : Statement (.bit_4_H) := rfl
theorem bit_4_L : Statement (.bit_4_L) := rfl
theorem bit_4_mHL : Statement (.bit_4_mHL) := rfl
theorem bit_4_A : Statement (.bit_4_A) := rfl
theorem bit_5_B : Statement (.bit_5_B) := rfl
theorem bit_5_C : Statement (.bit_5_C) := rfl
theorem bit_5_D : Statement (.bit_5_D) := rfl
theorem bit_5_E : Statement (.bit_5_E) := rfl
theorem bit_5_H : Statement (.bit_5_H) := rfl
theorem bit_5_L : Statement (.bit_5_L) := rfl
theorem bit_5_mHL : Statement (.bit_5_mHL) := rfl
theorem bit_5_A : Statement (.bit_5_A) := rfl
theorem bit_6_B : Statement (.bit_6_B) := rfl
theorem bit_6_C : Statement (.bit_6_C) := rfl
theorem bit_6_D : Statement (.bit_6_D) := rfl
theorem bit_6_E : Statement (.bit_6_E) := rfl
theorem bit_6_H : Statement (.bit_6_H) := rfl
theorem bit_6_L : Statement (.bit_6_L) := rfl
theorem bit_6_mHL : Statement (.bit_6_mHL) := rfl
theorem bit_6_A : Statement (.bit_6_A) := rfl
theorem bit_7_B : Statement (.bit_7_B) := rfl
theorem bit_7_C : Statement (.bit_7_C) := rfl
theorem bit_7_D : Statement (.bit_7_D) := rfl
theorem bit_7_E : Statement (.bit_7_E) := rfl
theorem bit_7_H : Statement (.bit_7_H) := rfl
theorem bit_7_L : Statement (.bit_7_L) := rfl
theorem bit_7_mHL : Statement (.bit_7_mHL) := rfl
theorem bit_7_A : Statement (.bit_7_A) := rfl
theorem res_0_B : Statement (.res_0_B) := rfl
theorem res_0_C : Statement (.res_0_C) := rfl
theorem res_0_D : Statement (.res_0_D) := rfl
theorem res_0_E : Statement (.res_0_E) := rfl
theorem res_0_H : Statement (.res_0_H) := rfl
theorem res_0_L : Statement (.res_0_L) := rfl
theorem res_0_mHL : Statement (.res_0_mHL) := rfl
theorem res_0_A : Statement (.res_0_A) := rfl
theorem res_1_B : Statement (.res_1_B) := rfl
theorem res_1_C : Statement (.res_1_C) := rfl
theorem res_1_D : Statement (.res_1_D) := rfl
theorem res_1_E : Statement (.res_1_E) := rfl
theorem res_1_H : Statement (.res_1_H) := rfl
theorem res_1_L : Statement (.res_1_L) := rfl
theorem res_1_mHL : Statement (.res_1_mHL) := rfl
theorem res_1_A : Statement (.res_1_A) := rfl
theorem res_2_B : Statement (.res_2_B) := rfl
theorem res_2_C : Statement (.res_2_C) := rfl
theorem res_2_D : Statement (.res_2_D) := rfl
theorem res_2_E : Statement (.res_2_E) := rfl
theorem res_2_H : Statement (.res_2_H) := rfl
theorem res_2_L : Statement (.res_2_L) := rfl
theorem res_2_mHL : Statement (.res_2_mHL) := rfl
theorem res_2_A : Statement (.res_2_A) := rfl
theorem res_3_B : Statement (.res_3_B) := rfl
theorem res_3_C : Statement (.res_3_C) := rfl
theorem res_3_D : Statement (.res_3_D) := rfl
theorem res_3_E : Statement (.res_3_E) := rfl
theorem res_3_H : Statement (.res_3_H) := rfl
theorem res_3_L : Statement (.res_3_L) := rfl
theorem res_3_mHL : Statement (.res_3_mHL) := rfl
theorem res_3_A : Statement (.res_3_A) := rfl
theorem res_4_B : Statement (.res_4_B) := rfl
theorem res_4_C : Statement (.res_4_C) := rfl
theorem res_4_D : Statement (.res_4_D) := rfl
theorem res_4_E : Statement (.res_4_E) := rfl
theorem res_4_H : Statement (.res_4_H) := rfl
theorem res_4_L : Statement (.res_4_L) := rfl
theorem res_4_mHL : Statement (.res_4_mHL) := rfl
theorem res_4_A : Statement (.res_4_A) := rfl
theorem res_5_B : Statement (.res_5_B) := rfl
theorem res_5_C : Statement (.res_5_C) := rfl
theorem res_5_D : Statement (.res_5_D) := rfl
theorem res_5_E : Statement (.res_5_E) := rfl
theorem res_5_H : Statement (.res_5_H) := rfl
theorem res_5_L : Statement (.res_5_L) := rfl
theorem res_5_mHL : Statement (.res_5_mHL) := rfl
theorem res_5_A : Statement (.res_5_A) := rfl
theorem res_6_B : Statement (.res_6_B) := rfl
theorem res_6_C : Statement (.res_6_C) := rfl
theorem res_6_D : Statement (.res_6_D) := rfl
theorem res_6_E : Statement (.res_6_E) := rfl
theorem res_6_H : Statement (.res_6_H) := rfl
theorem res_6_L : Statement (.res_6_L) := rfl
theorem res_6_mHL : Statement (.res_6_mHL) := rfl
theorem res_6_A : Statement (.res_6_A) := rfl
theorem res_7_B : Statement (.res_7_B) := rfl
theorem res_7_C : Statement (.res_7_C) := rfl
theorem res_7_D : Statement (.res_7_D) := rfl
theorem res_7_E : Statement (.res_7_E) := rfl
theorem res_7_H : Statement (.res_7_H) := rfl
theorem res_7_L : Statement (.res_7_L) := rfl
theorem res_7_mHL : Statement (.res_7_mHL) := rfl
theorem res_7_A : Statement (.res_7_A) := rfl
theorem set_0_B : Statement (.set_0_B) := rfl
theorem set_0_C : Statement (.set_0_C) := rfl
theorem set_0_D : Statement (.set_0_D) := rfl
theorem set_0_E : Statement (.set_0_E) := rfl
theorem set_0_H : Statement (.set_0_H) := rfl
theorem set_0_L : Statement (.set_0_L) := rfl
theorem set_0_mHL : Statement (.set_0_mHL) := rfl
theorem set_0_A : Statement (.set_0_A) := rfl
theorem set_1_B : Statement (.set_1_B) := rfl
theorem set_1_C : Statement (.set_1_C) := rfl
theorem set_1_D : Statement (.set_1_D) := rfl
theorem set_1_E : Statement (.set_1_E) := rfl
theorem set_1_H : Statement (.set_1_H) := rfl
theorem set_1_L : Statement (.set_1_L) := rfl
theorem set_1_mHL : Statement (.set_1_mHL) := rfl
theorem set_1_A : Statement (.set_1_A) := rfl
theorem set_2_B : Statement (.set_2_B) := rfl
theorem set_2_C : Statement (.set_2_C) := rfl
theorem set_2_D : Statement (.set_2_D) := rfl
theorem set_2_E : Statement (.set_2_E) := rfl
theorem set_2_H : Statement (.set_2_H) := rfl
theorem set_2_L : Statement (.set_2_L) := rfl
theorem set_2_mHL : Statement (.set_2_mHL) := rfl
theorem set_2_A : Statement (.set_2_A) := rfl
theorem set_3_B : Statement (.set_3_B) := rfl
theorem set_3_C : Statement (.set_3_C) := rfl
theorem set_3_D : Statement (.set_3_D) := rfl
theorem set_3_E : Statement (.set_3_E) := rfl
theorem set_3_H : Statement (.set_3_H) := rfl
theorem set_3_L : Statement (.set_3_L) := rfl
theorem set_3_mHL : Statement (.set_3_mHL) := rfl
theorem set_3_A : Statement (.set_3_A) := rfl
theorem set_4_B : Statement (.set_4_B) := rfl
theorem set_4_C : Statement (.set_4_C) := rfl
theorem set_4_D : Statement (.set_4_D) := rfl
theorem set_4_E : Statement (.set_4_E) := rfl
theorem set_4_H : Statement (.set_4_H) := rfl
theorem set_4_L : Statement (.set_4_L) := rfl
theorem set_4_mHL : Statement (.set_4_mHL) := rfl
theorem set_4_A : Statement (.set_4_A) := rfl
theorem set_5_B : Statement (.set_5_B) := rfl
theorem set_5_C : Statement (.set_5_C) := rfl
theorem set_5_D : Statement (.set_5_D) := rfl
theorem set_5_E : Statement (.set_5_E) := rfl
theorem set_5_H : Statement (.set_5_H) := rfl
theorem set_5_L : Statement (.set_5_L) := rfl
theorem set_5_mHL : Statement (.set_5_mHL) := rfl
theorem set_5_A : Statement (.set_5_A) := rfl
theorem set_6_B : Statement (.set_6_B) := rfl
theorem set_6_C : Statement (.set_6_C) := rfl
theorem set_6_D : Statement (.set_6_D) := rfl
theorem set_6_E : Statement (.set_6_E) := rfl
theorem set_6_H : Statement (.set_6_H) := rfl
theorem set_6_L : Statement (.set_6_L) := rfl
theorem set_6_mHL : Statement (.set_6_mHL) := rfl
theorem set_6_A : Statement (.set_6_A) := rfl
theorem set_7_B : Statement (.set_7_B) := rfl
theorem set_7_C : Statement (.set_7_C) := rfl
theorem set_7_D : Statement (.set_7_D) := rfl
theorem set_7_E : Statement (.set_7_E) := rfl
theorem set_7_H : Statement (.set_7_H) := rfl
theorem set_7_L : Statement (.set_7_L) := rfl
theorem set_7_mHL : Statement (.set_7_mHL) := rfl
theorem set_7_A : Statement (.set_7_A) := rfl

end Sys2Proof.Laws.EncodedLength
end

