-- ==== Sys2Proof/Laws/Step.lean ====
section
/-! SUPPORT. What one step can do, said once: the phases before the instruction, the instruction, the timer tick
(60_exceptions R260 to R273). -/

namespace Sys2Proof.Machine

/-! ### The timer tick -/

section Timer

variable (s : State)

@[simp] theorem countAndMirror_ctr : (countAndMirror s).ctr = s.ctr + 1 := rfl
@[simp] theorem timaIncrement_ctr : (timaIncrement s).ctr = s.ctr := by unfold timaIncrement; split <;> rfl

theorem timerTick_unfold :
    timerTick s = if timaDue (countAndMirror s) then timaIncrement (countAndMirror s) else countAndMirror s := rfl

/-- Outside memory and the counter a tick changes nothing. -/
theorem timerTick_eq : timerTick s = (s.setCtr (s.ctr + 1)).setMem (timerTick s).mem := by
  rw [timerTick_unfold]
  split
  · unfold timaIncrement
    split <;> rfl
  · rfl

@[simp] theorem timerTick_ctr : (timerTick s).ctr = s.ctr + 1 := by rw [timerTick_eq]; rfl
@[simp] theorem timerTick_reg (r : Reg8) : (timerTick s).reg r = s.reg r := by rw [timerTick_eq]; cases r <;> rfl
@[simp] theorem timerTick_flags : (timerTick s).flags = s.flags := by rw [timerTick_eq]; rfl
@[simp] theorem timerTick_sp : (timerTick s).sp = s.sp := by rw [timerTick_eq]; rfl
@[simp] theorem timerTick_pc : (timerTick s).pc = s.pc := by rw [timerTick_eq]; rfl
@[simp] theorem timerTick_ime : (timerTick s).ime = s.ime := by rw [timerTick_eq]; rfl
@[simp] theorem timerTick_halted : (timerTick s).halted = s.halted := by rw [timerTick_eq]; rfl
@[simp] theorem timerTick_events : (timerTick s).events = s.events := by rw [timerTick_eq]; rfl
@[simp] theorem timerTick_policy : (timerTick s).policy = s.policy := by rw [timerTick_eq]; rfl

theorem timaIncrement_peek_other {x : Word} (h1 : x ≠ Addr.tima) (h2 : x ≠ Addr.ifReg) :
    (timaIncrement s).peek x = s.peek x := by
  unfold timaIncrement
  split
  · rw [State.peek_poke_other _ h2, State.peek_poke_other _ h1]
  · rw [State.peek_poke_other _ h1]

/-- DIV mirrors the counter after a tick (10_state R23). -/
theorem timerTick_div : (timerTick s).peek Addr.div = hiByte (s.ctr + 1) := by
  have h : (countAndMirror s).peek Addr.div = hiByte (s.ctr + 1) := by simp [countAndMirror]
  rw [timerTick_unfold]
  split
  · rw [timaIncrement_peek_other _ (by decide) (by decide), h]
  · exact h

/-- A tick reaches DIV, TIMA and IF only. -/
theorem timerTick_peek_other {x : Word} (h1 : x ≠ Addr.div) (h2 : x ≠ Addr.tima) (h3 : x ≠ Addr.ifReg) :
    (timerTick s).peek x = s.peek x := by
  have h : (countAndMirror s).peek x = s.peek x := by
    simp only [countAndMirror, State.peek_poke_other _ h1, State.peek_setCtr]
  rw [timerTick_unfold]
  split
  · rw [timaIncrement_peek_other _ h2 h3, h]
  · exact h

theorem timerTick_wf {s : State} (h : s.mem.wf = true) : (timerTick s).mem.wf = true := by
  have hc : (countAndMirror s).mem.wf = true := State.wf_poke _ _ h
  rw [timerTick_unfold]
  unfold timaIncrement
  split
  · split
    · exact State.wf_poke _ _ (State.wf_poke _ _ hc)
    · exact State.wf_poke _ _ hc
  · exact hc

end Timer

/-! ### Before the instruction -/

/-- What counting, waking and clearing the events leave, before a dispatch. -/
def awake (s : State) : State := haltWake (imeSchedule s.clearEvents)

section Awake

variable (s : State)

@[simp] theorem haltWake_mem : (haltWake s).mem = s.mem := by unfold haltWake; split <;> rfl
@[simp] theorem haltWake_ime : (haltWake s).ime = s.ime := by unfold haltWake; split <;> rfl
@[simp] theorem haltWake_sp : (haltWake s).sp = s.sp := by unfold haltWake; split <;> rfl
@[simp] theorem haltWake_ctr : (haltWake s).ctr = s.ctr := by unfold haltWake; split <;> rfl
@[simp] theorem haltWake_policy : (haltWake s).policy = s.policy := by unfold haltWake; split <;> rfl
@[simp] theorem haltWake_events : (haltWake s).events = s.events := by unfold haltWake; split <;> rfl
@[simp] theorem haltWake_flags : (haltWake s).flags = s.flags := by unfold haltWake; split <;> rfl
@[simp] theorem haltWake_peek (x : Word) : (haltWake s).peek x = s.peek x := by unfold haltWake; split <;> rfl

@[simp] theorem awake_mem : (awake s).mem = s.mem := by simp [awake, imeSchedule]
@[simp] theorem awake_ime : (awake s).ime = s.ime.tick := by simp [awake, imeSchedule]
@[simp] theorem awake_sp : (awake s).sp = s.sp := by simp [awake, imeSchedule]
@[simp] theorem awake_ctr : (awake s).ctr = s.ctr := by simp [awake, imeSchedule]
@[simp] theorem awake_policy : (awake s).policy = s.policy := by simp [awake, imeSchedule]
@[simp] theorem awake_events : (awake s).events = [] := by simp [awake, imeSchedule]
@[simp] theorem awake_peek (x : Word) : (awake s).peek x = s.peek x := by simp [awake, imeSchedule]
@[simp] theorem awake_active (i : Irq) : i.active (awake s) = i.active s := by simp [Irq.active]

@[simp] theorem awake_pendingIrq : pendingIrq (awake s) = pendingIrq s := by simp [pendingIrq]

theorem awake_of_running (h : s.halted = false) : awake s = imeSchedule s.clearEvents := by
  simp [awake, haltWake, imeSchedule, h]

end Awake

/-- What taking an interrupt starts from: the source's IF bit cleared, `ime` Disabled (R267). -/
def acknowledged (i : Irq) (s : State) : State :=
  (s.poke Addr.ifReg (s.peek Addr.ifReg &&& ~~~((1 : Byte) <<< i.bit))).setIme .disabled

/-- What a taken interrupt leaves, where its push is no fault. -/
def interrupted (i : Irq) (s : State) : State := (pushed s.pc (acknowledged i s)).setPc i.vector

/-- Where taking an interrupt answers a next state, it is the interrupted one. -/
theorem takeInterrupt_next {i : Irq} {s t : State} (h : takeInterrupt i s = .next t) : t = interrupted i s := by
  obtain ⟨u, hu, h⟩ := andThen_eq_next.1 h
  cases push16_next hu
  cases h
  rfl

/-- Taking an interrupt completes wherever the two bytes of the push may be stored. -/
theorem takeInterrupt_of_mayStore (i : Irq) {s : State} (h1 : s.mayStore (s.sp - 1)) (h2 : s.mayStore (s.sp - 2)) :
    takeInterrupt i s = .next (interrupted i s) := by
  have h : push16 s.pc (acknowledged i s) = .next (pushed s.pc (acknowledged i s)) := push16_of_mayStore _ h1 h2
  change andThen (push16 s.pc (acknowledged i s)) _ = _
  rw [h]
  rfl

/-- Everything the phases before the instruction can answer. -/
theorem beforeInstruction_cases (s : State) :
    (beforeInstruction s = .next (awake s) ∧ (s.ime.tick ≠ .enabled ∨ pendingIrq s = none)) ∨
    (∃ i, s.ime.tick = .enabled ∧ pendingIrq s = some i ∧ beforeInstruction s = takeInterrupt i (awake s)) := by
  have hb : beforeInstruction s = dispatchInterrupt (awake s) := rfl
  rw [hb]
  unfold dispatchInterrupt
  rw [awake_ime, awake_pendingIrq]
  split
  · next i h1 h2 => exact .inr ⟨i, h1, h2, rfl⟩
  · next h =>
    refine .inl ⟨rfl, ?_⟩
    by_cases h1 : s.ime.tick = .enabled
    · right
      cases h2 : pendingIrq s with
      | none => rfl
      | some i => exact absurd h2 (h i h1)
    · exact .inl h1

/-- A step is its three parts, in order. -/
theorem step_eq_next {s t : State} :
    step s = .next t ↔ ∃ u v, beforeInstruction s = .next u ∧ runInstruction u = .next v ∧ t = timerTick v := by
  unfold step
  constructor
  · intro h
    obtain ⟨u, hu, h⟩ := andThen_eq_next.1 h
    obtain ⟨v, hv, h⟩ := andThen_eq_next.1 h
    exact ⟨u, v, hu, hv, (next_inj.1 h).symm⟩
  · rintro ⟨u, v, hu, hv, rfl⟩
    rw [hu, andThen_next, hv, andThen_next]

theorem runInstruction_halted {s : State} (h : s.halted = true) : runInstruction s = .next s := by
  simp [runInstruction, h]

theorem runInstruction_running {s : State} (h : s.halted = false) : runInstruction s = exec (fetchInstr s) s := by
  simp [runInstruction, h]

/-! ### The pending interrupt -/

theorem pendingIrq_eq_none {s : State} : pendingIrq s = none ↔ ∀ j : Irq, j.active s = false := by
  unfold pendingIrq
  rw [List.find?_eq_none]
  constructor
  · intro h j
    simpa using h j (by cases j <;> decide)
  · intro h j _
    simp [h j]

/-- The source of the lowest bit is the one dispatched (60_exceptions R269). -/
theorem pendingIrq_of_lowest {s : State} {i : Irq} (h1 : i.active s = true)
    (h2 : ∀ j : Irq, j.bit < i.bit → j.active s = false) : pendingIrq s = some i := by
  unfold pendingIrq Irq.byPriority
  cases i
  · simp [h1]
  · simp [h1, h2 .vblank (by decide)]
  · simp [h1, h2 .vblank (by decide), h2 .lcdStat (by decide)]
  · simp [h1, h2 .vblank (by decide), h2 .lcdStat (by decide), h2 .timer (by decide)]
  · simp [h1, h2 .vblank (by decide), h2 .lcdStat (by decide), h2 .timer (by decide), h2 .serial (by decide)]

/-- What holds of memory and the policy, and is kept by a bus write, by the clearing of an IF bit and by a timer
tick, is kept by every step. -/
theorem step_keeps {P : State → Prop}
    (hframe : ∀ s t : State, t.mem = s.mem → t.policy = s.policy → P s → P t)
    (hbus : ∀ a v s, P s → P (busEffect a v s))
    (hack : ∀ v s, P s → P (s.poke Addr.ifReg v))
    (htick : ∀ s, P s → P (timerTick s))
    {s t : State} (h : step s = .next t) (hs : P s) : P t := by
  obtain ⟨u, v, hu, hv, rfl⟩ := step_eq_next.1 h
  apply htick
  have h1 : P u := by
    have ha : P (awake s) := hframe s _ (awake_mem s) (awake_policy s) hs
    rcases beforeInstruction_cases s with ⟨h1, -⟩ | ⟨i, -, -, h3⟩
    · rw [h1] at hu
      cases hu
      exact ha
    · rw [h3] at hu
      cases takeInterrupt_next hu
      have hk : P (acknowledged i (awake s)) := hframe
        ((awake s).poke Addr.ifReg ((awake s).peek Addr.ifReg &&& ~~~((1 : Byte) <<< i.bit))) _ rfl rfl (hack _ _ ha)
      exact hframe (busWrites [(_, hiByte (awake s).pc), (_, loByte (awake s).pc)] (acknowledged i (awake s))) _ rfl rfl
        (busWrites_keep hbus _ _ hk)
  by_cases hh : u.halted = true
  · rw [runInstruction_halted hh] at hv
    cases hv
    exact h1
  · rw [runInstruction_running (by simpa using hh)] at hv
    by_cases hi : ∃ k, fetchInstr u = .illegalRow k
    · obtain ⟨k, hk⟩ := hi
      rw [hk, exec_illegalRow] at hv
      obtain ⟨-, rfl⟩ := illegalOn_next hv
      exact hframe u _ rfl rfl h1
    · obtain ⟨ws, hw⟩ := exec_stores _ (fun k hk => hi ⟨k, hk⟩) _ _ hv
      exact hframe (busWrites ws u) _ hw.mem (by rw [hw.policy, busWrites_policy]) (busWrites_keep hbus ws u h1)

end Sys2Proof.Machine
end

