-- ==== Sys2Proof/Spelling.lean ====
section
/-! DEFINITION. The assembler spellings of 30_encoding R82 and R83 (general knowledge, log 9). Operands are named as the
spec names them (d8, d16, a8, a16, r8); no meaning uses a spelling. -/

namespace Sys2Proof.Instr

/-- The spelling of an instruction (R82). -/
def spelling (i : Instr) : String :=
  match i with
  | .nop => "NOP"
  | .ld_BC_d16 _ => "LD BC,d16"
  | .ld_mBC_A => "LD (BC),A"
  | .inc_BC => "INC BC"
  | .inc_B => "INC B"
  | .dec_B => "DEC B"
  | .ld_B_d8 _ => "LD B,d8"
  | .rlca => "RLCA"
  | .ld_ma16_SP _ => "LD (a16),SP"
  | .add_HL_BC => "ADD HL,BC"
  | .ld_A_mBC => "LD A,(BC)"
  | .dec_BC => "DEC BC"
  | .inc_C => "INC C"
  | .dec_C => "DEC C"
  | .ld_C_d8 _ => "LD C,d8"
  | .rrca => "RRCA"
  | .stop _ => "STOP"
  | .ld_DE_d16 _ => "LD DE,d16"
  | .ld_mDE_A => "LD (DE),A"
  | .inc_DE => "INC DE"
  | .inc_D => "INC D"
  | .dec_D => "DEC D"
  | .ld_D_d8 _ => "LD D,d8"
  | .rla => "RLA"
  | .jr_r8 _ => "JR r8"
  | .add_HL_DE => "ADD HL,DE"
  | .ld_A_mDE => "LD A,(DE)"
  | .dec_DE => "DEC DE"
  | .inc_E => "INC E"
  | .dec_E => "DEC E"
  | .ld_E_d8 _ => "LD E,d8"
  | .rra => "RRA"
  | .jr_NZ_r8 _ => "JR NZ,r8"
  | .ld_HL_d16 _ => "LD HL,d16"
  | .ld_mHLi_A => "LD (HL+),A"
  | .inc_HL => "INC HL"
  | .inc_H => "INC H"
  | .dec_H => "DEC H"
  | .ld_H_d8 _ => "LD H,d8"
  | .daa => "DAA"
  | .jr_Z_r8 _ => "JR Z,r8"
  | .add_HL_HL => "ADD HL,HL"
  | .ld_A_mHLi => "LD A,(HL+)"
  | .dec_HL => "DEC HL"
  | .inc_L => "INC L"
  | .dec_L => "DEC L"
  | .ld_L_d8 _ => "LD L,d8"
  | .cpl => "CPL"
  | .jr_NC_r8 _ => "JR NC,r8"
  | .ld_SP_d16 _ => "LD SP,d16"
  | .ld_mHLd_A => "LD (HL-),A"
  | .inc_SP => "INC SP"
  | .inc_mHL => "INC (HL)"
  | .dec_mHL => "DEC (HL)"
  | .ld_mHL_d8 _ => "LD (HL),d8"
  | .scf => "SCF"
  | .jr_C_r8 _ => "JR C,r8"
  | .add_HL_SP => "ADD HL,SP"
  | .ld_A_mHLd => "LD A,(HL-)"
  | .dec_SP => "DEC SP"
  | .inc_A => "INC A"
  | .dec_A => "DEC A"
  | .ld_A_d8 _ => "LD A,d8"
  | .ccf => "CCF"
  | .ld_B_B => "LD B,B"
  | .ld_B_C => "LD B,C"
  | .ld_B_D => "LD B,D"
  | .ld_B_E => "LD B,E"
  | .ld_B_H => "LD B,H"
  | .ld_B_L => "LD B,L"
  | .ld_B_mHL => "LD B,(HL)"
  | .ld_B_A => "LD B,A"
  | .ld_C_B => "LD C,B"
  | .ld_C_C => "LD C,C"
  | .ld_C_D => "LD C,D"
  | .ld_C_E => "LD C,E"
  | .ld_C_H => "LD C,H"
  | .ld_C_L => "LD C,L"
  | .ld_C_mHL => "LD C,(HL)"
  | .ld_C_A => "LD C,A"
  | .ld_D_B => "LD D,B"
  | .ld_D_C => "LD D,C"
  | .ld_D_D => "LD D,D"
  | .ld_D_E => "LD D,E"
  | .ld_D_H => "LD D,H"
  | .ld_D_L => "LD D,L"
  | .ld_D_mHL => "LD D,(HL)"
  | .ld_D_A => "LD D,A"
  | .ld_E_B => "LD E,B"
  | .ld_E_C => "LD E,C"
  | .ld_E_D => "LD E,D"
  | .ld_E_E => "LD E,E"
  | .ld_E_H => "LD E,H"
  | .ld_E_L => "LD E,L"
  | .ld_E_mHL => "LD E,(HL)"
  | .ld_E_A => "LD E,A"
  | .ld_H_B => "LD H,B"
  | .ld_H_C => "LD H,C"
  | .ld_H_D => "LD H,D"
  | .ld_H_E => "LD H,E"
  | .ld_H_H => "LD H,H"
  | .ld_H_L => "LD H,L"
  | .ld_H_mHL => "LD H,(HL)"
  | .ld_H_A => "LD H,A"
  | .ld_L_B => "LD L,B"
  | .ld_L_C => "LD L,C"
  | .ld_L_D => "LD L,D"
  | .ld_L_E => "LD L,E"
  | .ld_L_H => "LD L,H"
  | .ld_L_L => "LD L,L"
  | .ld_L_mHL => "LD L,(HL)"
  | .ld_L_A => "LD L,A"
  | .ld_mHL_B => "LD (HL),B"
  | .ld_mHL_C => "LD (HL),C"
  | .ld_mHL_D => "LD (HL),D"
  | .ld_mHL_E => "LD (HL),E"
  | .ld_mHL_H => "LD (HL),H"
  | .ld_mHL_L => "LD (HL),L"
  | .halt => "HALT"
  | .ld_mHL_A => "LD (HL),A"
  | .ld_A_B => "LD A,B"
  | .ld_A_C => "LD A,C"
  | .ld_A_D => "LD A,D"
  | .ld_A_E => "LD A,E"
  | .ld_A_H => "LD A,H"
  | .ld_A_L => "LD A,L"
  | .ld_A_mHL => "LD A,(HL)"
  | .ld_A_A => "LD A,A"
  | .add_A_B => "ADD A,B"
  | .add_A_C => "ADD A,C"
  | .add_A_D => "ADD A,D"
  | .add_A_E => "ADD A,E"
  | .add_A_H => "ADD A,H"
  | .add_A_L => "ADD A,L"
  | .add_A_mHL => "ADD A,(HL)"
  | .add_A_A => "ADD A,A"
  | .adc_A_B => "ADC A,B"
  | .adc_A_C => "ADC A,C"
  | .adc_A_D => "ADC A,D"
  | .adc_A_E => "ADC A,E"
  | .adc_A_H => "ADC A,H"
  | .adc_A_L => "ADC A,L"
  | .adc_A_mHL => "ADC A,(HL)"
  | .adc_A_A => "ADC A,A"
  | .sub_B => "SUB B"
  | .sub_C => "SUB C"
  | .sub_D => "SUB D"
  | .sub_E => "SUB E"
  | .sub_H => "SUB H"
  | .sub_L => "SUB L"
  | .sub_mHL => "SUB (HL)"
  | .sub_A => "SUB A"
  | .sbc_A_B => "SBC A,B"
  | .sbc_A_C => "SBC A,C"
  | .sbc_A_D => "SBC A,D"
  | .sbc_A_E => "SBC A,E"
  | .sbc_A_H => "SBC A,H"
  | .sbc_A_L => "SBC A,L"
  | .sbc_A_mHL => "SBC A,(HL)"
  | .sbc_A_A => "SBC A,A"
  | .and_B => "AND B"
  | .and_C => "AND C"
  | .and_D => "AND D"
  | .and_E => "AND E"
  | .and_H => "AND H"
  | .and_L => "AND L"
  | .and_mHL => "AND (HL)"
  | .and_A => "AND A"
  | .xor_B => "XOR B"
  | .xor_C => "XOR C"
  | .xor_D => "XOR D"
  | .xor_E => "XOR E"
  | .xor_H => "XOR H"
  | .xor_L => "XOR L"
  | .xor_mHL => "XOR (HL)"
  | .xor_A => "XOR A"
  | .or_B => "OR B"
  | .or_C => "OR C"
  | .or_D => "OR D"
  | .or_E => "OR E"
  | .or_H => "OR H"
  | .or_L => "OR L"
  | .or_mHL => "OR (HL)"
  | .or_A => "OR A"
  | .cp_B => "CP B"
  | .cp_C => "CP C"
  | .cp_D => "CP D"
  | .cp_E => "CP E"
  | .cp_H => "CP H"
  | .cp_L => "CP L"
  | .cp_mHL => "CP (HL)"
  | .cp_A => "CP A"
  | .ret_NZ => "RET NZ"
  | .pop_BC => "POP BC"
  | .jp_NZ_a16 _ => "JP NZ,a16"
  | .jp_a16 _ => "JP a16"
  | .call_NZ_a16 _ => "CALL NZ,a16"
  | .push_BC => "PUSH BC"
  | .add_A_d8 _ => "ADD A,d8"
  | .rst_00 => "RST 00H"
  | .ret_Z => "RET Z"
  | .ret => "RET"
  | .jp_Z_a16 _ => "JP Z,a16"
  | .prefixCb => "PREFIX CB"
  | .call_Z_a16 _ => "CALL Z,a16"
  | .call_a16 _ => "CALL a16"
  | .adc_A_d8 _ => "ADC A,d8"
  | .rst_08 => "RST 08H"
  | .ret_NC => "RET NC"
  | .pop_DE => "POP DE"
  | .jp_NC_a16 _ => "JP NC,a16"
  | .illegal_D3 => "ILLEGAL_D3"
  | .call_NC_a16 _ => "CALL NC,a16"
  | .push_DE => "PUSH DE"
  | .sub_d8 _ => "SUB d8"
  | .rst_10 => "RST 10H"
  | .ret_C => "RET C"
  | .reti => "RETI"
  | .jp_C_a16 _ => "JP C,a16"
  | .illegal_DB => "ILLEGAL_DB"
  | .call_C_a16 _ => "CALL C,a16"
  | .illegal_DD => "ILLEGAL_DD"
  | .sbc_A_d8 _ => "SBC A,d8"
  | .rst_18 => "RST 18H"
  | .ldh_ma8_A _ => "LDH (a8),A"
  | .pop_HL => "POP HL"
  | .ld_mC_A => "LD (C),A"
  | .illegal_E3 => "ILLEGAL_E3"
  | .illegal_E4 => "ILLEGAL_E4"
  | .push_HL => "PUSH HL"
  | .and_d8 _ => "AND d8"
  | .rst_20 => "RST 20H"
  | .add_SP_r8 _ => "ADD SP,r8"
  | .jp_mHL => "JP (HL)"
  | .ld_ma16_A _ => "LD (a16),A"
  | .illegal_EB => "ILLEGAL_EB"
  | .illegal_EC => "ILLEGAL_EC"
  | .illegal_ED => "ILLEGAL_ED"
  | .xor_d8 _ => "XOR d8"
  | .rst_28 => "RST 28H"
  | .ldh_A_ma8 _ => "LDH A,(a8)"
  | .pop_AF => "POP AF"
  | .ld_A_mC => "LD A,(C)"
  | .di => "DI"
  | .illegal_F4 => "ILLEGAL_F4"
  | .push_AF => "PUSH AF"
  | .or_d8 _ => "OR d8"
  | .rst_30 => "RST 30H"
  | .ld_HL_SPr8 _ => "LD HL,SP+r8"
  | .ld_SP_HL => "LD SP,HL"
  | .ld_A_ma16 _ => "LD A,(a16)"
  | .ei => "EI"
  | .illegal_FC => "ILLEGAL_FC"
  | .illegal_FD => "ILLEGAL_FD"
  | .cp_d8 _ => "CP d8"
  | .rst_38 => "RST 38H"
  | .rlc_B => "RLC B"
  | .rlc_C => "RLC C"
  | .rlc_D => "RLC D"
  | .rlc_E => "RLC E"
  | .rlc_H => "RLC H"
  | .rlc_L => "RLC L"
  | .rlc_mHL => "RLC (HL)"
  | .rlc_A => "RLC A"
  | .rrc_B => "RRC B"
  | .rrc_C => "RRC C"
  | .rrc_D => "RRC D"
  | .rrc_E => "RRC E"
  | .rrc_H => "RRC H"
  | .rrc_L => "RRC L"
  | .rrc_mHL => "RRC (HL)"
  | .rrc_A => "RRC A"
  | .rl_B => "RL B"
  | .rl_C => "RL C"
  | .rl_D => "RL D"
  | .rl_E => "RL E"
  | .rl_H => "RL H"
  | .rl_L => "RL L"
  | .rl_mHL => "RL (HL)"
  | .rl_A => "RL A"
  | .rr_B => "RR B"
  | .rr_C => "RR C"
  | .rr_D => "RR D"
  | .rr_E => "RR E"
  | .rr_H => "RR H"
  | .rr_L => "RR L"
  | .rr_mHL => "RR (HL)"
  | .rr_A => "RR A"
  | .sla_B => "SLA B"
  | .sla_C => "SLA C"
  | .sla_D => "SLA D"
  | .sla_E => "SLA E"
  | .sla_H => "SLA H"
  | .sla_L => "SLA L"
  | .sla_mHL => "SLA (HL)"
  | .sla_A => "SLA A"
  | .sra_B => "SRA B"
  | .sra_C => "SRA C"
  | .sra_D => "SRA D"
  | .sra_E => "SRA E"
  | .sra_H => "SRA H"
  | .sra_L => "SRA L"
  | .sra_mHL => "SRA (HL)"
  | .sra_A => "SRA A"
  | .swap_B => "SWAP B"
  | .swap_C => "SWAP C"
  | .swap_D => "SWAP D"
  | .swap_E => "SWAP E"
  | .swap_H => "SWAP H"
  | .swap_L => "SWAP L"
  | .swap_mHL => "SWAP (HL)"
  | .swap_A => "SWAP A"
  | .srl_B => "SRL B"
  | .srl_C => "SRL C"
  | .srl_D => "SRL D"
  | .srl_E => "SRL E"
  | .srl_H => "SRL H"
  | .srl_L => "SRL L"
  | .srl_mHL => "SRL (HL)"
  | .srl_A => "SRL A"
  | .bit_0_B => "BIT 0,B"
  | .bit_0_C => "BIT 0,C"
  | .bit_0_D => "BIT 0,D"
  | .bit_0_E => "BIT 0,E"
  | .bit_0_H => "BIT 0,H"
  | .bit_0_L => "BIT 0,L"
  | .bit_0_mHL => "BIT 0,(HL)"
  | .bit_0_A => "BIT 0,A"
  | .bit_1_B => "BIT 1,B"
  | .bit_1_C => "BIT 1,C"
  | .bit_1_D => "BIT 1,D"
  | .bit_1_E => "BIT 1,E"
  | .bit_1_H => "BIT 1,H"
  | .bit_1_L => "BIT 1,L"
  | .bit_1_mHL => "BIT 1,(HL)"
  | .bit_1_A => "BIT 1,A"
  | .bit_2_B => "BIT 2,B"
  | .bit_2_C => "BIT 2,C"
  | .bit_2_D => "BIT 2,D"
  | .bit_2_E => "BIT 2,E"
  | .bit_2_H => "BIT 2,H"
  | .bit_2_L => "BIT 2,L"
  | .bit_2_mHL => "BIT 2,(HL)"
  | .bit_2_A => "BIT 2,A"
  | .bit_3_B => "BIT 3,B"
  | .bit_3_C => "BIT 3,C"
  | .bit_3_D => "BIT 3,D"
  | .bit_3_E => "BIT 3,E"
  | .bit_3_H => "BIT 3,H"
  | .bit_3_L => "BIT 3,L"
  | .bit_3_mHL => "BIT 3,(HL)"
  | .bit_3_A => "BIT 3,A"
  | .bit_4_B => "BIT 4,B"
  | .bit_4_C => "BIT 4,C"
  | .bit_4_D => "BIT 4,D"
  | .bit_4_E => "BIT 4,E"
  | .bit_4_H => "BIT 4,H"
  | .bit_4_L => "BIT 4,L"
  | .bit_4_mHL => "BIT 4,(HL)"
  | .bit_4_A => "BIT 4,A"
  | .bit_5_B => "BIT 5,B"
  | .bit_5_C => "BIT 5,C"
  | .bit_5_D => "BIT 5,D"
  | .bit_5_E => "BIT 5,E"
  | .bit_5_H => "BIT 5,H"
  | .bit_5_L => "BIT 5,L"
  | .bit_5_mHL => "BIT 5,(HL)"
  | .bit_5_A => "BIT 5,A"
  | .bit_6_B => "BIT 6,B"
  | .bit_6_C => "BIT 6,C"
  | .bit_6_D => "BIT 6,D"
  | .bit_6_E => "BIT 6,E"
  | .bit_6_H => "BIT 6,H"
  | .bit_6_L => "BIT 6,L"
  | .bit_6_mHL => "BIT 6,(HL)"
  | .bit_6_A => "BIT 6,A"
  | .bit_7_B => "BIT 7,B"
  | .bit_7_C => "BIT 7,C"
  | .bit_7_D => "BIT 7,D"
  | .bit_7_E => "BIT 7,E"
  | .bit_7_H => "BIT 7,H"
  | .bit_7_L => "BIT 7,L"
  | .bit_7_mHL => "BIT 7,(HL)"
  | .bit_7_A => "BIT 7,A"
  | .res_0_B => "RES 0,B"
  | .res_0_C => "RES 0,C"
  | .res_0_D => "RES 0,D"
  | .res_0_E => "RES 0,E"
  | .res_0_H => "RES 0,H"
  | .res_0_L => "RES 0,L"
  | .res_0_mHL => "RES 0,(HL)"
  | .res_0_A => "RES 0,A"
  | .res_1_B => "RES 1,B"
  | .res_1_C => "RES 1,C"
  | .res_1_D => "RES 1,D"
  | .res_1_E => "RES 1,E"
  | .res_1_H => "RES 1,H"
  | .res_1_L => "RES 1,L"
  | .res_1_mHL => "RES 1,(HL)"
  | .res_1_A => "RES 1,A"
  | .res_2_B => "RES 2,B"
  | .res_2_C => "RES 2,C"
  | .res_2_D => "RES 2,D"
  | .res_2_E => "RES 2,E"
  | .res_2_H => "RES 2,H"
  | .res_2_L => "RES 2,L"
  | .res_2_mHL => "RES 2,(HL)"
  | .res_2_A => "RES 2,A"
  | .res_3_B => "RES 3,B"
  | .res_3_C => "RES 3,C"
  | .res_3_D => "RES 3,D"
  | .res_3_E => "RES 3,E"
  | .res_3_H => "RES 3,H"
  | .res_3_L => "RES 3,L"
  | .res_3_mHL => "RES 3,(HL)"
  | .res_3_A => "RES 3,A"
  | .res_4_B => "RES 4,B"
  | .res_4_C => "RES 4,C"
  | .res_4_D => "RES 4,D"
  | .res_4_E => "RES 4,E"
  | .res_4_H => "RES 4,H"
  | .res_4_L => "RES 4,L"
  | .res_4_mHL => "RES 4,(HL)"
  | .res_4_A => "RES 4,A"
  | .res_5_B => "RES 5,B"
  | .res_5_C => "RES 5,C"
  | .res_5_D => "RES 5,D"
  | .res_5_E => "RES 5,E"
  | .res_5_H => "RES 5,H"
  | .res_5_L => "RES 5,L"
  | .res_5_mHL => "RES 5,(HL)"
  | .res_5_A => "RES 5,A"
  | .res_6_B => "RES 6,B"
  | .res_6_C => "RES 6,C"
  | .res_6_D => "RES 6,D"
  | .res_6_E => "RES 6,E"
  | .res_6_H => "RES 6,H"
  | .res_6_L => "RES 6,L"
  | .res_6_mHL => "RES 6,(HL)"
  | .res_6_A => "RES 6,A"
  | .res_7_B => "RES 7,B"
  | .res_7_C => "RES 7,C"
  | .res_7_D => "RES 7,D"
  | .res_7_E => "RES 7,E"
  | .res_7_H => "RES 7,H"
  | .res_7_L => "RES 7,L"
  | .res_7_mHL => "RES 7,(HL)"
  | .res_7_A => "RES 7,A"
  | .set_0_B => "SET 0,B"
  | .set_0_C => "SET 0,C"
  | .set_0_D => "SET 0,D"
  | .set_0_E => "SET 0,E"
  | .set_0_H => "SET 0,H"
  | .set_0_L => "SET 0,L"
  | .set_0_mHL => "SET 0,(HL)"
  | .set_0_A => "SET 0,A"
  | .set_1_B => "SET 1,B"
  | .set_1_C => "SET 1,C"
  | .set_1_D => "SET 1,D"
  | .set_1_E => "SET 1,E"
  | .set_1_H => "SET 1,H"
  | .set_1_L => "SET 1,L"
  | .set_1_mHL => "SET 1,(HL)"
  | .set_1_A => "SET 1,A"
  | .set_2_B => "SET 2,B"
  | .set_2_C => "SET 2,C"
  | .set_2_D => "SET 2,D"
  | .set_2_E => "SET 2,E"
  | .set_2_H => "SET 2,H"
  | .set_2_L => "SET 2,L"
  | .set_2_mHL => "SET 2,(HL)"
  | .set_2_A => "SET 2,A"
  | .set_3_B => "SET 3,B"
  | .set_3_C => "SET 3,C"
  | .set_3_D => "SET 3,D"
  | .set_3_E => "SET 3,E"
  | .set_3_H => "SET 3,H"
  | .set_3_L => "SET 3,L"
  | .set_3_mHL => "SET 3,(HL)"
  | .set_3_A => "SET 3,A"
  | .set_4_B => "SET 4,B"
  | .set_4_C => "SET 4,C"
  | .set_4_D => "SET 4,D"
  | .set_4_E => "SET 4,E"
  | .set_4_H => "SET 4,H"
  | .set_4_L => "SET 4,L"
  | .set_4_mHL => "SET 4,(HL)"
  | .set_4_A => "SET 4,A"
  | .set_5_B => "SET 5,B"
  | .set_5_C => "SET 5,C"
  | .set_5_D => "SET 5,D"
  | .set_5_E => "SET 5,E"
  | .set_5_H => "SET 5,H"
  | .set_5_L => "SET 5,L"
  | .set_5_mHL => "SET 5,(HL)"
  | .set_5_A => "SET 5,A"
  | .set_6_B => "SET 6,B"
  | .set_6_C => "SET 6,C"
  | .set_6_D => "SET 6,D"
  | .set_6_E => "SET 6,E"
  | .set_6_H => "SET 6,H"
  | .set_6_L => "SET 6,L"
  | .set_6_mHL => "SET 6,(HL)"
  | .set_6_A => "SET 6,A"
  | .set_7_B => "SET 7,B"
  | .set_7_C => "SET 7,C"
  | .set_7_D => "SET 7,D"
  | .set_7_E => "SET 7,E"
  | .set_7_H => "SET 7,H"
  | .set_7_L => "SET 7,L"
  | .set_7_mHL => "SET 7,(HL)"
  | .set_7_A => "SET 7,A"

/-- The other spellings of the same encoding (R83). -/
def otherSpellings (i : Instr) : List String :=
  match i with
  | .ld_mHLi_A => ["LDI (HL),A", "LD (HLI),A"]
  | .ld_A_mHLi => ["LDI A,(HL)"]
  | .ld_mHLd_A => ["LDD (HL),A", "LD (HLD),A"]
  | .ld_A_mHLd => ["LDD A,(HL)"]
  | .add_A_B => ["ADD B"]
  | .add_A_C => ["ADD C"]
  | .add_A_D => ["ADD D"]
  | .add_A_E => ["ADD E"]
  | .add_A_H => ["ADD H"]
  | .add_A_L => ["ADD L"]
  | .add_A_mHL => ["ADD (HL)"]
  | .add_A_A => ["ADD A"]
  | .adc_A_B => ["ADC B"]
  | .adc_A_C => ["ADC C"]
  | .adc_A_D => ["ADC D"]
  | .adc_A_E => ["ADC E"]
  | .adc_A_H => ["ADC H"]
  | .adc_A_L => ["ADC L"]
  | .adc_A_mHL => ["ADC (HL)"]
  | .adc_A_A => ["ADC A"]
  | .sub_B => ["SUB A,B"]
  | .sub_C => ["SUB A,C"]
  | .sub_D => ["SUB A,D"]
  | .sub_E => ["SUB A,E"]
  | .sub_H => ["SUB A,H"]
  | .sub_L => ["SUB A,L"]
  | .sub_mHL => ["SUB A,(HL)"]
  | .sub_A => ["SUB A,A"]
  | .sbc_A_B => ["SBC B"]
  | .sbc_A_C => ["SBC C"]
  | .sbc_A_D => ["SBC D"]
  | .sbc_A_E => ["SBC E"]
  | .sbc_A_H => ["SBC H"]
  | .sbc_A_L => ["SBC L"]
  | .sbc_A_mHL => ["SBC (HL)"]
  | .sbc_A_A => ["SBC A"]
  | .and_B => ["AND A,B"]
  | .and_C => ["AND A,C"]
  | .and_D => ["AND A,D"]
  | .and_E => ["AND A,E"]
  | .and_H => ["AND A,H"]
  | .and_L => ["AND A,L"]
  | .and_mHL => ["AND A,(HL)"]
  | .and_A => ["AND A,A"]
  | .xor_B => ["XOR A,B"]
  | .xor_C => ["XOR A,C"]
  | .xor_D => ["XOR A,D"]
  | .xor_E => ["XOR A,E"]
  | .xor_H => ["XOR A,H"]
  | .xor_L => ["XOR A,L"]
  | .xor_mHL => ["XOR A,(HL)"]
  | .xor_A => ["XOR A,A"]
  | .or_B => ["OR A,B"]
  | .or_C => ["OR A,C"]
  | .or_D => ["OR A,D"]
  | .or_E => ["OR A,E"]
  | .or_H => ["OR A,H"]
  | .or_L => ["OR A,L"]
  | .or_mHL => ["OR A,(HL)"]
  | .or_A => ["OR A,A"]
  | .cp_B => ["CP A,B"]
  | .cp_C => ["CP A,C"]
  | .cp_D => ["CP A,D"]
  | .cp_E => ["CP A,E"]
  | .cp_H => ["CP A,H"]
  | .cp_L => ["CP A,L"]
  | .cp_mHL => ["CP A,(HL)"]
  | .cp_A => ["CP A,A"]
  | .add_A_d8 _ => ["ADD d8"]
  | .adc_A_d8 _ => ["ADC d8"]
  | .sub_d8 _ => ["SUB A,d8"]
  | .sbc_A_d8 _ => ["SBC d8"]
  | .ldh_ma8_A _ => ["LD (0xFF00+a8),A"]
  | .ld_mC_A => ["LD (0xFF00+C),A", "LDH (C),A"]
  | .and_d8 _ => ["AND A,d8"]
  | .jp_mHL => ["JP HL"]
  | .xor_d8 _ => ["XOR A,d8"]
  | .or_d8 _ => ["OR A,d8"]
  | .ld_HL_SPr8 _ => ["LDHL SP,r8"]
  | .cp_d8 _ => ["CP A,d8"]
  | .nop | .ld_BC_d16 _ | .ld_mBC_A | .inc_BC | .inc_B | .dec_B | .ld_B_d8 _ | .rlca | .ld_ma16_SP _ |
    .add_HL_BC | .ld_A_mBC | .dec_BC | .inc_C | .dec_C | .ld_C_d8 _ | .rrca | .stop _ | .ld_DE_d16 _ |
    .ld_mDE_A | .inc_DE | .inc_D | .dec_D | .ld_D_d8 _ | .rla | .jr_r8 _ | .add_HL_DE | .ld_A_mDE | .dec_DE |
    .inc_E | .dec_E | .ld_E_d8 _ | .rra | .jr_NZ_r8 _ | .ld_HL_d16 _ | .inc_HL | .inc_H | .dec_H | .ld_H_d8 _ |
    .daa | .jr_Z_r8 _ | .add_HL_HL | .dec_HL | .inc_L | .dec_L | .ld_L_d8 _ | .cpl | .jr_NC_r8 _ |
    .ld_SP_d16 _ | .inc_SP | .inc_mHL | .dec_mHL | .ld_mHL_d8 _ | .scf | .jr_C_r8 _ | .add_HL_SP | .dec_SP |
    .inc_A | .dec_A | .ld_A_d8 _ | .ccf | .ld_B_B | .ld_B_C | .ld_B_D | .ld_B_E | .ld_B_H | .ld_B_L |
    .ld_B_mHL | .ld_B_A | .ld_C_B | .ld_C_C | .ld_C_D | .ld_C_E | .ld_C_H | .ld_C_L | .ld_C_mHL | .ld_C_A |
    .ld_D_B | .ld_D_C | .ld_D_D | .ld_D_E | .ld_D_H | .ld_D_L | .ld_D_mHL | .ld_D_A | .ld_E_B | .ld_E_C |
    .ld_E_D | .ld_E_E | .ld_E_H | .ld_E_L | .ld_E_mHL | .ld_E_A | .ld_H_B | .ld_H_C | .ld_H_D | .ld_H_E |
    .ld_H_H | .ld_H_L | .ld_H_mHL | .ld_H_A | .ld_L_B | .ld_L_C | .ld_L_D | .ld_L_E | .ld_L_H | .ld_L_L |
    .ld_L_mHL | .ld_L_A | .ld_mHL_B | .ld_mHL_C | .ld_mHL_D | .ld_mHL_E | .ld_mHL_H | .ld_mHL_L | .halt |
    .ld_mHL_A | .ld_A_B | .ld_A_C | .ld_A_D | .ld_A_E | .ld_A_H | .ld_A_L | .ld_A_mHL | .ld_A_A | .ret_NZ |
    .pop_BC | .jp_NZ_a16 _ | .jp_a16 _ | .call_NZ_a16 _ | .push_BC | .rst_00 | .ret_Z | .ret | .jp_Z_a16 _ |
    .prefixCb | .call_Z_a16 _ | .call_a16 _ | .rst_08 | .ret_NC | .pop_DE | .jp_NC_a16 _ | .illegal_D3 |
    .call_NC_a16 _ | .push_DE | .rst_10 | .ret_C | .reti | .jp_C_a16 _ | .illegal_DB | .call_C_a16 _ |
    .illegal_DD | .rst_18 | .pop_HL | .illegal_E3 | .illegal_E4 | .push_HL | .rst_20 | .add_SP_r8 _ |
    .ld_ma16_A _ | .illegal_EB | .illegal_EC | .illegal_ED | .rst_28 | .ldh_A_ma8 _ | .pop_AF | .ld_A_mC | .di |
    .illegal_F4 | .push_AF | .rst_30 | .ld_SP_HL | .ld_A_ma16 _ | .ei | .illegal_FC | .illegal_FD | .rst_38 |
    .rlc_B | .rlc_C | .rlc_D | .rlc_E | .rlc_H | .rlc_L | .rlc_mHL | .rlc_A | .rrc_B | .rrc_C | .rrc_D |
    .rrc_E | .rrc_H | .rrc_L | .rrc_mHL | .rrc_A | .rl_B | .rl_C | .rl_D | .rl_E | .rl_H | .rl_L | .rl_mHL |
    .rl_A | .rr_B | .rr_C | .rr_D | .rr_E | .rr_H | .rr_L | .rr_mHL | .rr_A | .sla_B | .sla_C | .sla_D |
    .sla_E | .sla_H | .sla_L | .sla_mHL | .sla_A | .sra_B | .sra_C | .sra_D | .sra_E | .sra_H | .sra_L |
    .sra_mHL | .sra_A | .swap_B | .swap_C | .swap_D | .swap_E | .swap_H | .swap_L | .swap_mHL | .swap_A |
    .srl_B | .srl_C | .srl_D | .srl_E | .srl_H | .srl_L | .srl_mHL | .srl_A | .bit_0_B | .bit_0_C | .bit_0_D |
    .bit_0_E | .bit_0_H | .bit_0_L | .bit_0_mHL | .bit_0_A | .bit_1_B | .bit_1_C | .bit_1_D | .bit_1_E |
    .bit_1_H | .bit_1_L | .bit_1_mHL | .bit_1_A | .bit_2_B | .bit_2_C | .bit_2_D | .bit_2_E | .bit_2_H |
    .bit_2_L | .bit_2_mHL | .bit_2_A | .bit_3_B | .bit_3_C | .bit_3_D | .bit_3_E | .bit_3_H | .bit_3_L |
    .bit_3_mHL | .bit_3_A | .bit_4_B | .bit_4_C | .bit_4_D | .bit_4_E | .bit_4_H | .bit_4_L | .bit_4_mHL |
    .bit_4_A | .bit_5_B | .bit_5_C | .bit_5_D | .bit_5_E | .bit_5_H | .bit_5_L | .bit_5_mHL | .bit_5_A |
    .bit_6_B | .bit_6_C | .bit_6_D | .bit_6_E | .bit_6_H | .bit_6_L | .bit_6_mHL | .bit_6_A | .bit_7_B |
    .bit_7_C | .bit_7_D | .bit_7_E | .bit_7_H | .bit_7_L | .bit_7_mHL | .bit_7_A | .res_0_B | .res_0_C |
    .res_0_D | .res_0_E | .res_0_H | .res_0_L | .res_0_mHL | .res_0_A | .res_1_B | .res_1_C | .res_1_D |
    .res_1_E | .res_1_H | .res_1_L | .res_1_mHL | .res_1_A | .res_2_B | .res_2_C | .res_2_D | .res_2_E |
    .res_2_H | .res_2_L | .res_2_mHL | .res_2_A | .res_3_B | .res_3_C | .res_3_D | .res_3_E | .res_3_H |
    .res_3_L | .res_3_mHL | .res_3_A | .res_4_B | .res_4_C | .res_4_D | .res_4_E | .res_4_H | .res_4_L |
    .res_4_mHL | .res_4_A | .res_5_B | .res_5_C | .res_5_D | .res_5_E | .res_5_H | .res_5_L | .res_5_mHL |
    .res_5_A | .res_6_B | .res_6_C | .res_6_D | .res_6_E | .res_6_H | .res_6_L | .res_6_mHL | .res_6_A |
    .res_7_B | .res_7_C | .res_7_D | .res_7_E | .res_7_H | .res_7_L | .res_7_mHL | .res_7_A | .set_0_B |
    .set_0_C | .set_0_D | .set_0_E | .set_0_H | .set_0_L | .set_0_mHL | .set_0_A | .set_1_B | .set_1_C |
    .set_1_D | .set_1_E | .set_1_H | .set_1_L | .set_1_mHL | .set_1_A | .set_2_B | .set_2_C | .set_2_D |
    .set_2_E | .set_2_H | .set_2_L | .set_2_mHL | .set_2_A | .set_3_B | .set_3_C | .set_3_D | .set_3_E |
    .set_3_H | .set_3_L | .set_3_mHL | .set_3_A | .set_4_B | .set_4_C | .set_4_D | .set_4_E | .set_4_H |
    .set_4_L | .set_4_mHL | .set_4_A | .set_5_B | .set_5_C | .set_5_D | .set_5_E | .set_5_H | .set_5_L |
    .set_5_mHL | .set_5_A | .set_6_B | .set_6_C | .set_6_D | .set_6_E | .set_6_H | .set_6_L | .set_6_mHL |
    .set_6_A | .set_7_B | .set_7_C | .set_7_D | .set_7_E | .set_7_H | .set_7_L | .set_7_mHL | .set_7_A => []

end Sys2Proof.Instr
end

