-- ==== Sys2Proof/Tests/Slice0.lean ====
section
/-! SUPPORT. The model's own tests: decoding of words written out from the spec, the vectors of 95_test_vectors, and
one witness for each statement with hypotheses. -/

namespace Sys2Proof.Tests

open Sys2Proof.Machine

/-- The start state of 95_test_vectors section 2: reset, F = 0, the bytes placed raw at an address, PC there. -/
def at' (pc : Word) (bytes : List Byte) : State :=
  { State.reset with
    flags := Flags.ofByte 0, pc := pc, mem := placeImage bytes pc.toNat [] }

/-- The same at 0xC000. -/
def start (bytes : List Byte) : State := at' 0xC000 bytes

/-- A check of the next state, false where there is none. -/
def holds (o : Result) (p : State → Bool) : Bool :=
  match o with
  | .next t => p t
  | .fault _ => false
  | .refused _ => false

/-! ### Well-formedness -/

theorem test_prefix_row_is_not_wellFormed : Instr.prefixCb.wellFormed = false := by decide
theorem test_cb_row_is_wellFormed : (Instr.rlc_B).wellFormed = true := by decide
theorem test_illegal_row_is_wellFormed : (Instr.illegal_D3).wellFormed = true := by decide

/-! ### Decoding: each row of the two opcode maps, its words written out -/

theorem test_decode_row_0x : [0x00, 0x01, 0x02, 0x03, 0x04, 0x05, 0x06, 0x07, 0x08, 0x09, 0x0A, 0x0B, 0x0C, 0x0D, 0x0E, 0x0F].map (decodeTableWord 8) =
    ([.nop, .ld_BC_d16 0, .ld_mBC_A, .inc_BC, .inc_B, .dec_B, .ld_B_d8 0, .rlca, .ld_ma16_SP 0
      , .add_HL_BC, .ld_A_mBC, .dec_BC, .inc_C, .dec_C, .ld_C_d8 0, .rrca] : List Instr).map Option.some := by
  decide
theorem test_decode_row_1x : [0x10, 0x11, 0x12, 0x13, 0x14, 0x15, 0x16, 0x17, 0x18, 0x19, 0x1A, 0x1B, 0x1C, 0x1D, 0x1E, 0x1F].map (decodeTableWord 8) =
    ([.stop 0, .ld_DE_d16 0, .ld_mDE_A, .inc_DE, .inc_D, .dec_D, .ld_D_d8 0, .rla, .jr_r8 0, .add_HL_DE
      , .ld_A_mDE, .dec_DE, .inc_E, .dec_E, .ld_E_d8 0, .rra] : List Instr).map Option.some := by
  decide
theorem test_decode_row_2x : [0x20, 0x21, 0x22, 0x23, 0x24, 0x25, 0x26, 0x27, 0x28, 0x29, 0x2A, 0x2B, 0x2C, 0x2D, 0x2E, 0x2F].map (decodeTableWord 8) =
    ([.jr_NZ_r8 0, .ld_HL_d16 0, .ld_mHLi_A, .inc_HL, .inc_H, .dec_H, .ld_H_d8 0, .daa, .jr_Z_r8 0
      , .add_HL_HL, .ld_A_mHLi, .dec_HL, .inc_L, .dec_L, .ld_L_d8 0, .cpl] : List Instr).map Option.some := by
  decide
theorem test_decode_row_3x : [0x30, 0x31, 0x32, 0x33, 0x34, 0x35, 0x36, 0x37, 0x38, 0x39, 0x3A, 0x3B, 0x3C, 0x3D, 0x3E, 0x3F].map (decodeTableWord 8) =
    ([.jr_NC_r8 0, .ld_SP_d16 0, .ld_mHLd_A, .inc_SP, .inc_mHL, .dec_mHL, .ld_mHL_d8 0, .scf, .jr_C_r8 0
      , .add_HL_SP, .ld_A_mHLd, .dec_SP, .inc_A, .dec_A, .ld_A_d8 0, .ccf] : List Instr).map Option.some := by
  decide
theorem test_decode_row_4x : [0x40, 0x41, 0x42, 0x43, 0x44, 0x45, 0x46, 0x47, 0x48, 0x49, 0x4A, 0x4B, 0x4C, 0x4D, 0x4E, 0x4F].map (decodeTableWord 8) =
    ([.ld_B_B, .ld_B_C, .ld_B_D, .ld_B_E, .ld_B_H, .ld_B_L, .ld_B_mHL, .ld_B_A, .ld_C_B, .ld_C_C
      , .ld_C_D, .ld_C_E, .ld_C_H, .ld_C_L, .ld_C_mHL, .ld_C_A] : List Instr).map Option.some := by
  decide
theorem test_decode_row_5x : [0x50, 0x51, 0x52, 0x53, 0x54, 0x55, 0x56, 0x57, 0x58, 0x59, 0x5A, 0x5B, 0x5C, 0x5D, 0x5E, 0x5F].map (decodeTableWord 8) =
    ([.ld_D_B, .ld_D_C, .ld_D_D, .ld_D_E, .ld_D_H, .ld_D_L, .ld_D_mHL, .ld_D_A, .ld_E_B, .ld_E_C
      , .ld_E_D, .ld_E_E, .ld_E_H, .ld_E_L, .ld_E_mHL, .ld_E_A] : List Instr).map Option.some := by
  decide
theorem test_decode_row_6x : [0x60, 0x61, 0x62, 0x63, 0x64, 0x65, 0x66, 0x67, 0x68, 0x69, 0x6A, 0x6B, 0x6C, 0x6D, 0x6E, 0x6F].map (decodeTableWord 8) =
    ([.ld_H_B, .ld_H_C, .ld_H_D, .ld_H_E, .ld_H_H, .ld_H_L, .ld_H_mHL, .ld_H_A, .ld_L_B, .ld_L_C
      , .ld_L_D, .ld_L_E, .ld_L_H, .ld_L_L, .ld_L_mHL, .ld_L_A] : List Instr).map Option.some := by
  decide
theorem test_decode_row_7x : [0x70, 0x71, 0x72, 0x73, 0x74, 0x75, 0x76, 0x77, 0x78, 0x79, 0x7A, 0x7B, 0x7C, 0x7D, 0x7E, 0x7F].map (decodeTableWord 8) =
    ([.ld_mHL_B, .ld_mHL_C, .ld_mHL_D, .ld_mHL_E, .ld_mHL_H, .ld_mHL_L, .halt, .ld_mHL_A, .ld_A_B
      , .ld_A_C, .ld_A_D, .ld_A_E, .ld_A_H, .ld_A_L, .ld_A_mHL, .ld_A_A] : List Instr).map Option.some := by
  decide
theorem test_decode_row_8x : [0x80, 0x81, 0x82, 0x83, 0x84, 0x85, 0x86, 0x87, 0x88, 0x89, 0x8A, 0x8B, 0x8C, 0x8D, 0x8E, 0x8F].map (decodeTableWord 8) =
    ([.add_A_B, .add_A_C, .add_A_D, .add_A_E, .add_A_H, .add_A_L, .add_A_mHL, .add_A_A, .adc_A_B
      , .adc_A_C, .adc_A_D, .adc_A_E, .adc_A_H, .adc_A_L, .adc_A_mHL, .adc_A_A] : List Instr).map Option.some := by
  decide
theorem test_decode_row_9x : [0x90, 0x91, 0x92, 0x93, 0x94, 0x95, 0x96, 0x97, 0x98, 0x99, 0x9A, 0x9B, 0x9C, 0x9D, 0x9E, 0x9F].map (decodeTableWord 8) =
    ([.sub_B, .sub_C, .sub_D, .sub_E, .sub_H, .sub_L, .sub_mHL, .sub_A, .sbc_A_B, .sbc_A_C, .sbc_A_D
      , .sbc_A_E, .sbc_A_H, .sbc_A_L, .sbc_A_mHL, .sbc_A_A] : List Instr).map Option.some := by
  decide
theorem test_decode_row_Ax : [0xA0, 0xA1, 0xA2, 0xA3, 0xA4, 0xA5, 0xA6, 0xA7, 0xA8, 0xA9, 0xAA, 0xAB, 0xAC, 0xAD, 0xAE, 0xAF].map (decodeTableWord 8) =
    ([.and_B, .and_C, .and_D, .and_E, .and_H, .and_L, .and_mHL, .and_A, .xor_B, .xor_C, .xor_D, .xor_E
      , .xor_H, .xor_L, .xor_mHL, .xor_A] : List Instr).map Option.some := by
  decide
theorem test_decode_row_Bx : [0xB0, 0xB1, 0xB2, 0xB3, 0xB4, 0xB5, 0xB6, 0xB7, 0xB8, 0xB9, 0xBA, 0xBB, 0xBC, 0xBD, 0xBE, 0xBF].map (decodeTableWord 8) =
    ([.or_B, .or_C, .or_D, .or_E, .or_H, .or_L, .or_mHL, .or_A, .cp_B, .cp_C, .cp_D, .cp_E, .cp_H, .cp_L
      , .cp_mHL, .cp_A] : List Instr).map Option.some := by
  decide
theorem test_decode_row_Cx : [0xC0, 0xC1, 0xC2, 0xC3, 0xC4, 0xC5, 0xC6, 0xC7, 0xC8, 0xC9, 0xCA, 0xCB, 0xCC, 0xCD, 0xCE, 0xCF].map (decodeTableWord 8) =
    ([.ret_NZ, .pop_BC, .jp_NZ_a16 0, .jp_a16 0, .call_NZ_a16 0, .push_BC, .add_A_d8 0, .rst_00, .ret_Z
      , .ret, .jp_Z_a16 0, .prefixCb, .call_Z_a16 0, .call_a16 0, .adc_A_d8 0, .rst_08] : List Instr).map Option.some := by
  decide
theorem test_decode_row_Dx : [0xD0, 0xD1, 0xD2, 0xD3, 0xD4, 0xD5, 0xD6, 0xD7, 0xD8, 0xD9, 0xDA, 0xDB, 0xDC, 0xDD, 0xDE, 0xDF].map (decodeTableWord 8) =
    ([.ret_NC, .pop_DE, .jp_NC_a16 0, .illegal_D3, .call_NC_a16 0, .push_DE, .sub_d8 0, .rst_10, .ret_C
      , .reti, .jp_C_a16 0, .illegal_DB, .call_C_a16 0, .illegal_DD, .sbc_A_d8 0, .rst_18] : List Instr).map Option.some := by
  decide
theorem test_decode_row_Ex : [0xE0, 0xE1, 0xE2, 0xE3, 0xE4, 0xE5, 0xE6, 0xE7, 0xE8, 0xE9, 0xEA, 0xEB, 0xEC, 0xED, 0xEE, 0xEF].map (decodeTableWord 8) =
    ([.ldh_ma8_A 0, .pop_HL, .ld_mC_A, .illegal_E3, .illegal_E4, .push_HL, .and_d8 0, .rst_20
      , .add_SP_r8 0, .jp_mHL, .ld_ma16_A 0, .illegal_EB, .illegal_EC, .illegal_ED, .xor_d8 0, .rst_28] : List Instr).map Option.some := by
  decide
theorem test_decode_row_Fx : [0xF0, 0xF1, 0xF2, 0xF3, 0xF4, 0xF5, 0xF6, 0xF7, 0xF8, 0xF9, 0xFA, 0xFB, 0xFC, 0xFD, 0xFE, 0xFF].map (decodeTableWord 8) =
    ([.ldh_A_ma8 0, .pop_AF, .ld_A_mC, .di, .illegal_F4, .push_AF, .or_d8 0, .rst_30, .ld_HL_SPr8 0
      , .ld_SP_HL, .ld_A_ma16 0, .ei, .illegal_FC, .illegal_FD, .cp_d8 0, .rst_38] : List Instr).map Option.some := by
  decide
theorem test_decode_cb_row_0x : [0xCB00, 0xCB01, 0xCB02, 0xCB03, 0xCB04, 0xCB05, 0xCB06, 0xCB07, 0xCB08, 0xCB09, 0xCB0A, 0xCB0B, 0xCB0C, 0xCB0D, 0xCB0E, 0xCB0F].map (decodeTableWord 16) =
    ([.rlc_B, .rlc_C, .rlc_D, .rlc_E, .rlc_H, .rlc_L, .rlc_mHL, .rlc_A, .rrc_B, .rrc_C, .rrc_D, .rrc_E
      , .rrc_H, .rrc_L, .rrc_mHL, .rrc_A] : List Instr).map Option.some := by
  decide
theorem test_decode_cb_row_1x : [0xCB10, 0xCB11, 0xCB12, 0xCB13, 0xCB14, 0xCB15, 0xCB16, 0xCB17, 0xCB18, 0xCB19, 0xCB1A, 0xCB1B, 0xCB1C, 0xCB1D, 0xCB1E, 0xCB1F].map (decodeTableWord 16) =
    ([.rl_B, .rl_C, .rl_D, .rl_E, .rl_H, .rl_L, .rl_mHL, .rl_A, .rr_B, .rr_C, .rr_D, .rr_E, .rr_H, .rr_L
      , .rr_mHL, .rr_A] : List Instr).map Option.some := by
  decide
theorem test_decode_cb_row_2x : [0xCB20, 0xCB21, 0xCB22, 0xCB23, 0xCB24, 0xCB25, 0xCB26, 0xCB27, 0xCB28, 0xCB29, 0xCB2A, 0xCB2B, 0xCB2C, 0xCB2D, 0xCB2E, 0xCB2F].map (decodeTableWord 16) =
    ([.sla_B, .sla_C, .sla_D, .sla_E, .sla_H, .sla_L, .sla_mHL, .sla_A, .sra_B, .sra_C, .sra_D, .sra_E
      , .sra_H, .sra_L, .sra_mHL, .sra_A] : List Instr).map Option.some := by
  decide
theorem test_decode_cb_row_3x : [0xCB30, 0xCB31, 0xCB32, 0xCB33, 0xCB34, 0xCB35, 0xCB36, 0xCB37, 0xCB38, 0xCB39, 0xCB3A, 0xCB3B, 0xCB3C, 0xCB3D, 0xCB3E, 0xCB3F].map (decodeTableWord 16) =
    ([.swap_B, .swap_C, .swap_D, .swap_E, .swap_H, .swap_L, .swap_mHL, .swap_A, .srl_B, .srl_C, .srl_D
      , .srl_E, .srl_H, .srl_L, .srl_mHL, .srl_A] : List Instr).map Option.some := by
  decide
theorem test_decode_cb_row_4x : [0xCB40, 0xCB41, 0xCB42, 0xCB43, 0xCB44, 0xCB45, 0xCB46, 0xCB47, 0xCB48, 0xCB49, 0xCB4A, 0xCB4B, 0xCB4C, 0xCB4D, 0xCB4E, 0xCB4F].map (decodeTableWord 16) =
    ([.bit_0_B, .bit_0_C, .bit_0_D, .bit_0_E, .bit_0_H, .bit_0_L, .bit_0_mHL, .bit_0_A, .bit_1_B
      , .bit_1_C, .bit_1_D, .bit_1_E, .bit_1_H, .bit_1_L, .bit_1_mHL, .bit_1_A] : List Instr).map Option.some := by
  decide
theorem test_decode_cb_row_5x : [0xCB50, 0xCB51, 0xCB52, 0xCB53, 0xCB54, 0xCB55, 0xCB56, 0xCB57, 0xCB58, 0xCB59, 0xCB5A, 0xCB5B, 0xCB5C, 0xCB5D, 0xCB5E, 0xCB5F].map (decodeTableWord 16) =
    ([.bit_2_B, .bit_2_C, .bit_2_D, .bit_2_E, .bit_2_H, .bit_2_L, .bit_2_mHL, .bit_2_A, .bit_3_B
      , .bit_3_C, .bit_3_D, .bit_3_E, .bit_3_H, .bit_3_L, .bit_3_mHL, .bit_3_A] : List Instr).map Option.some := by
  decide
theorem test_decode_cb_row_6x : [0xCB60, 0xCB61, 0xCB62, 0xCB63, 0xCB64, 0xCB65, 0xCB66, 0xCB67, 0xCB68, 0xCB69, 0xCB6A, 0xCB6B, 0xCB6C, 0xCB6D, 0xCB6E, 0xCB6F].map (decodeTableWord 16) =
    ([.bit_4_B, .bit_4_C, .bit_4_D, .bit_4_E, .bit_4_H, .bit_4_L, .bit_4_mHL, .bit_4_A, .bit_5_B
      , .bit_5_C, .bit_5_D, .bit_5_E, .bit_5_H, .bit_5_L, .bit_5_mHL, .bit_5_A] : List Instr).map Option.some := by
  decide
theorem test_decode_cb_row_7x : [0xCB70, 0xCB71, 0xCB72, 0xCB73, 0xCB74, 0xCB75, 0xCB76, 0xCB77, 0xCB78, 0xCB79, 0xCB7A, 0xCB7B, 0xCB7C, 0xCB7D, 0xCB7E, 0xCB7F].map (decodeTableWord 16) =
    ([.bit_6_B, .bit_6_C, .bit_6_D, .bit_6_E, .bit_6_H, .bit_6_L, .bit_6_mHL, .bit_6_A, .bit_7_B
      , .bit_7_C, .bit_7_D, .bit_7_E, .bit_7_H, .bit_7_L, .bit_7_mHL, .bit_7_A] : List Instr).map Option.some := by
  decide
theorem test_decode_cb_row_8x : [0xCB80, 0xCB81, 0xCB82, 0xCB83, 0xCB84, 0xCB85, 0xCB86, 0xCB87, 0xCB88, 0xCB89, 0xCB8A, 0xCB8B, 0xCB8C, 0xCB8D, 0xCB8E, 0xCB8F].map (decodeTableWord 16) =
    ([.res_0_B, .res_0_C, .res_0_D, .res_0_E, .res_0_H, .res_0_L, .res_0_mHL, .res_0_A, .res_1_B
      , .res_1_C, .res_1_D, .res_1_E, .res_1_H, .res_1_L, .res_1_mHL, .res_1_A] : List Instr).map Option.some := by
  decide
theorem test_decode_cb_row_9x : [0xCB90, 0xCB91, 0xCB92, 0xCB93, 0xCB94, 0xCB95, 0xCB96, 0xCB97, 0xCB98, 0xCB99, 0xCB9A, 0xCB9B, 0xCB9C, 0xCB9D, 0xCB9E, 0xCB9F].map (decodeTableWord 16) =
    ([.res_2_B, .res_2_C, .res_2_D, .res_2_E, .res_2_H, .res_2_L, .res_2_mHL, .res_2_A, .res_3_B
      , .res_3_C, .res_3_D, .res_3_E, .res_3_H, .res_3_L, .res_3_mHL, .res_3_A] : List Instr).map Option.some := by
  decide
theorem test_decode_cb_row_Ax : [0xCBA0, 0xCBA1, 0xCBA2, 0xCBA3, 0xCBA4, 0xCBA5, 0xCBA6, 0xCBA7, 0xCBA8, 0xCBA9, 0xCBAA, 0xCBAB, 0xCBAC, 0xCBAD, 0xCBAE, 0xCBAF].map (decodeTableWord 16) =
    ([.res_4_B, .res_4_C, .res_4_D, .res_4_E, .res_4_H, .res_4_L, .res_4_mHL, .res_4_A, .res_5_B
      , .res_5_C, .res_5_D, .res_5_E, .res_5_H, .res_5_L, .res_5_mHL, .res_5_A] : List Instr).map Option.some := by
  decide
theorem test_decode_cb_row_Bx : [0xCBB0, 0xCBB1, 0xCBB2, 0xCBB3, 0xCBB4, 0xCBB5, 0xCBB6, 0xCBB7, 0xCBB8, 0xCBB9, 0xCBBA, 0xCBBB, 0xCBBC, 0xCBBD, 0xCBBE, 0xCBBF].map (decodeTableWord 16) =
    ([.res_6_B, .res_6_C, .res_6_D, .res_6_E, .res_6_H, .res_6_L, .res_6_mHL, .res_6_A, .res_7_B
      , .res_7_C, .res_7_D, .res_7_E, .res_7_H, .res_7_L, .res_7_mHL, .res_7_A] : List Instr).map Option.some := by
  decide
theorem test_decode_cb_row_Cx : [0xCBC0, 0xCBC1, 0xCBC2, 0xCBC3, 0xCBC4, 0xCBC5, 0xCBC6, 0xCBC7, 0xCBC8, 0xCBC9, 0xCBCA, 0xCBCB, 0xCBCC, 0xCBCD, 0xCBCE, 0xCBCF].map (decodeTableWord 16) =
    ([.set_0_B, .set_0_C, .set_0_D, .set_0_E, .set_0_H, .set_0_L, .set_0_mHL, .set_0_A, .set_1_B
      , .set_1_C, .set_1_D, .set_1_E, .set_1_H, .set_1_L, .set_1_mHL, .set_1_A] : List Instr).map Option.some := by
  decide
theorem test_decode_cb_row_Dx : [0xCBD0, 0xCBD1, 0xCBD2, 0xCBD3, 0xCBD4, 0xCBD5, 0xCBD6, 0xCBD7, 0xCBD8, 0xCBD9, 0xCBDA, 0xCBDB, 0xCBDC, 0xCBDD, 0xCBDE, 0xCBDF].map (decodeTableWord 16) =
    ([.set_2_B, .set_2_C, .set_2_D, .set_2_E, .set_2_H, .set_2_L, .set_2_mHL, .set_2_A, .set_3_B
      , .set_3_C, .set_3_D, .set_3_E, .set_3_H, .set_3_L, .set_3_mHL, .set_3_A] : List Instr).map Option.some := by
  decide
theorem test_decode_cb_row_Ex : [0xCBE0, 0xCBE1, 0xCBE2, 0xCBE3, 0xCBE4, 0xCBE5, 0xCBE6, 0xCBE7, 0xCBE8, 0xCBE9, 0xCBEA, 0xCBEB, 0xCBEC, 0xCBED, 0xCBEE, 0xCBEF].map (decodeTableWord 16) =
    ([.set_4_B, .set_4_C, .set_4_D, .set_4_E, .set_4_H, .set_4_L, .set_4_mHL, .set_4_A, .set_5_B
      , .set_5_C, .set_5_D, .set_5_E, .set_5_H, .set_5_L, .set_5_mHL, .set_5_A] : List Instr).map Option.some := by
  decide
theorem test_decode_cb_row_Fx : [0xCBF0, 0xCBF1, 0xCBF2, 0xCBF3, 0xCBF4, 0xCBF5, 0xCBF6, 0xCBF7, 0xCBF8, 0xCBF9, 0xCBFA, 0xCBFB, 0xCBFC, 0xCBFD, 0xCBFE, 0xCBFF].map (decodeTableWord 16) =
    ([.set_6_B, .set_6_C, .set_6_D, .set_6_E, .set_6_H, .set_6_L, .set_6_mHL, .set_6_A, .set_7_B
      , .set_7_C, .set_7_D, .set_7_E, .set_7_H, .set_7_L, .set_7_mHL, .set_7_A] : List Instr).map Option.some := by
  decide

/-! ### Decoding: the operand forms -/

theorem test_decode_d16 : decode [0x01, 0x34, 0x12] = .ok (.ld_BC_d16 0x1234, []) := by decide
theorem test_decode_a16 : decode [0xEA, 0x00, 0x20] = .ok (.ld_ma16_A 0x2000, []) := by decide
theorem test_decode_d8 : decode [0x3E, 0x05, 0x76] = .ok (.ld_A_d8 0x05, [0x76]) := by decide
theorem test_decode_r8 : decode [0x18, 0xFE] = .ok (.jr_r8 0xFE, []) := by decide
theorem test_decode_a8 : decode [0xE0, 0x80] = .ok (.ldh_ma8_A 0x80, []) := by decide
theorem test_decode_stop : decode [0x10, 0x00] = .ok (.stop 0x00, []) := by decide
theorem test_decode_cb : decode [0xCB, 0x7C] = .ok (.bit_7_H, []) := by decide
theorem test_decode_nothing : decode [] = .error .noBytes := by decide
theorem test_decode_truncated : decode [0xC3, 0x50] = .error (.truncated 0xC3) := by decide
theorem test_decode_table_word_with_operand : decodeTableWord 24 0x1234CD = Option.some (.call_a16 0x1234) := by decide

/-! ### The host's placing of an instruction -/

theorem test_withFetchWord_runs : holds (step (State.reset.withFetchWord 16 0x053E)) (fun t => t.a == 0x05) = true := by
  decide
theorem test_withFetchWord_cb :
    holds (step (State.reset.withFetchWord 16 0xCB37)) (fun t => t.a == 0x10 && t.pc == 0x0102) = true := by
  decide
theorem test_withFetchWord_halted :
    holds (step ((State.reset.setHalted true).withFetchWord 8 0x3C)) (fun t => t.a == 0x02) = true := by
  decide
theorem test_withFetchWord_dispatch :
    holds (step ((((State.reset.setIme .enabled).poke 0xFF0F 0x04).poke 0xFFFF 0x04).withFetchWord 8 0x3C))
      (fun t => t.a == 0x02 && t.pc == 0x0051) = true := by
  decide

/-! ### The vectors of 95_test_vectors sections 2.1 to 2.8, one step each -/

theorem test_ld_B_C_1 : holds (step ((((start [0x41]).setReg .B 0x01).setReg .C 0x02).setFlags (Flags.ofByte 0xF0)))
    (fun t => t.reg .B == 0x02 && t.reg .C == 0x02 && t.f == 0xF0 && t.pc == 0xC001) = true := by decide
theorem test_ld_A_A_1 : holds (step ((start [0x7F]).setReg .A 0x9C))
    (fun t => t.reg .A == 0x9C && t.pc == 0xC001) = true := by decide
theorem test_ld_A_d8_1 : holds (step (start [0x3E, 0x05]))
    (fun t => t.reg .A == 0x05 && t.pc == 0xC002) = true := by decide
theorem test_ld_A_mHL_1 : holds (step (((start [0x7E]).poke 0xC100 0x5A).setHl 0xC100))
    (fun t => t.reg .A == 0x5A) = true := by decide
theorem test_ld_H_mHL_1 : holds (step (((start [0x66]).poke 0xC100 0xD0).setHl 0xC100))
    (fun t => t.reg .H == 0xD0 && t.reg .L == 0x00) = true := by decide
theorem test_ld_mHL_A_1 : holds (step (((start [0x77]).setHl 0xC010).setReg .A 0x42))
    (fun t => t.peek 0xC010 == 0x42 && t.peek 0xE010 == 0x42) = true := by decide
theorem test_ld_mHL_A_2 : holds (step ((((start [0x77]).poke 0x2000 0x11).setHl 0x2000).setReg .A 0x42))
    (fun t => t.peek 0x2000 == 0x11 && t.pc == 0xC001) = true := by decide
theorem test_ld_mHL_d8_1 : holds (step ((start [0x36, 0x99]).setHl 0xDDFF))
    (fun t => t.peek 0xDDFF == 0x99 && t.peek 0xFDFF == 0x99) = true := by decide
theorem test_ld_mHL_d8_2 : holds (step ((start [0x36, 0x99]).setHl 0xDE00))
    (fun t => t.peek 0xDE00 == 0x99 && t.peek 0xFE00 == 0x00) = true := by decide
theorem test_ld_A_mBC_1 : holds (step (((start [0x0A]).poke 0x0013 0x77).setBc 0x0013))
    (fun t => t.reg .A == 0x77) = true := by decide
theorem test_ld_A_mDE_1 : holds (step (((start [0x1A]).poke 0x00D8 0x12).setDe 0x00D8))
    (fun t => t.reg .A == 0x12) = true := by decide
theorem test_ld_mBC_A_1 : holds (step (((start [0x02]).setBc 0xC020).setReg .A 0x01))
    (fun t => t.peek 0xC020 == 0x01 && t.peek 0xE020 == 0x01) = true := by decide
theorem test_ld_mDE_A_1 : holds (step (((start [0x12]).setDe 0x8000).setReg .A 0x3C))
    (fun t => t.peek 0x8000 == 0x3C) = true := by decide
theorem test_ld_A_ma16_1 : holds (step ((start [0xFA, 0x34, 0xC1]).poke 0xC134 0x77))
    (fun t => t.reg .A == 0x77 && t.pc == 0xC003) = true := by decide
theorem test_ld_ma16_A_1 : holds (step (((start [0xEA, 0x00, 0x20]).poke 0x2000 0x11).setReg .A 0x55))
    (fun t => t.peek 0x2000 == 0x11 && t.pc == 0xC003) = true := by decide
theorem test_ldh_ma8_A_1 : holds (step ((start [0xE0, 0x80]).setReg .A 0x12))
    (fun t => t.peek 0xFF80 == 0x12 && t.pc == 0xC002) = true := by decide
theorem test_ldh_A_ma8_1 : holds (step ((start [0xF0, 0x44]).poke 0xFF44 0x90))
    (fun t => t.reg .A == 0x90) = true := by decide
theorem test_ld_mC_A_1 : holds (step (((start [0xE2]).setReg .A 0x77).setReg .C 0x81))
    (fun t => t.peek 0xFF81 == 0x77 && t.pc == 0xC001) = true := by decide
theorem test_ld_A_mC_1 : holds (step ((start [0xF2]).setReg .C 0x00))
    (fun t => t.reg .A == 0xCF) = true := by decide
theorem test_ld_mHLi_A_1 : holds (step (((start [0x22]).setHl 0xFFFF).setReg .A 0x1F))
    (fun t => t.peek 0xFFFF == 0x1F && t.hl == 0x0000) = true := by decide
theorem test_ld_A_mHLi_1 : holds (step ((start [0x2A]).setHl 0xC000))
    (fun t => t.reg .A == 0x2A && t.hl == 0xC001) = true := by decide
theorem test_ld_mHLd_A_1 : holds (step (((start [0x32]).setHl 0xC001).setReg .A 0x09))
    (fun t => t.peek 0xC001 == 0x09 && t.peek 0xE001 == 0x09 && t.hl == 0xC000) = true := by decide
theorem test_ld_A_mHLd_1 : holds (step (((start [0x3A]).poke 0x0000 0x5A).setHl 0x0000))
    (fun t => t.reg .A == 0x5A && t.hl == 0xFFFF) = true := by decide
theorem test_ld_BC_d16_1 : holds (step (start [0x01, 0x34, 0x12]))
    (fun t => t.reg .B == 0x12 && t.reg .C == 0x34 && t.pc == 0xC003) = true := by decide
theorem test_ld_SP_d16_1 : holds (step (start [0x31, 0x00, 0xD0]))
    (fun t => t.sp == 0xD000) = true := by decide
theorem test_ld_ma16_SP_1 : holds (step ((start [0x08, 0x00, 0xC1]).setSp 0xBEEF))
    (fun t => t.peek 0xC100 == 0xEF && t.peek 0xC101 == 0xBE &&
      t.peek 0xE100 == 0xEF && t.peek 0xE101 == 0xBE && t.pc == 0xC003) = true := by decide
theorem test_ld_SP_HL_1 : holds (step ((start [0xF9]).setHl 0x014D))
    (fun t => t.sp == 0x014D) = true := by decide
theorem test_ld_HL_SPr8_1 : holds (step ((start [0xF8, 0x01]).setSp 0x000F))
    (fun t => t.hl == 0x0010 && t.f == 0x20 && t.sp == 0x000F) = true := by decide
theorem test_ld_HL_SPr8_2 : holds (step ((start [0xF8, 0x80]).setSp 0x0080))
    (fun t => t.hl == 0x0000 && t.f == 0x10) = true := by decide
theorem test_push_AF_1 : holds (step ((((start [0xF5]).setReg .A 0x12).setFlags (Flags.ofByte 0xF0)).setSp 0xD000))
    (fun t => t.peek 0xCFFF == 0x12 && t.peek 0xCFFE == 0xF0 &&
      t.peek 0xEFFF == 0x12 && t.peek 0xEFFE == 0xF0 && t.sp == 0xCFFE) = true := by decide
theorem test_pop_AF_1 : holds (step ((((start [0xF1]).poke 0xC100 0xFF).poke 0xC101 0x12).setSp 0xC100))
    (fun t => t.reg .A == 0x12 && t.f == 0xF0 && t.sp == 0xC102) = true := by decide
theorem test_pop_BC_1 : holds (step ((((start [0xC1]).poke 0xFFFF 0x34).poke 0x0000 0x12).setSp 0xFFFF))
    (fun t => t.reg .B == 0x12 && t.reg .C == 0x34 && t.sp == 0x0001) = true := by decide
theorem test_push_BC_1 : holds (step (((start [0xC5]).setBc 0xABCD).setSp 0x0001))
    (fun t => t.peek 0xFFFF == 0xCD && t.sp == 0xFFFF) = true := by decide
theorem test_push_HL_1 : holds (step (((start [0xE5]).setHl 0x1234).setSp 0xFF00))
    (fun t => t.peek 0xFEFF == 0x00 && t.peek 0xFEFE == 0x00 &&
      t.sp == 0xFEFE && t.events == [.unusableWrite 0xFEFF 0x12, .unusableWrite 0xFEFE 0x34]) = true := by decide
theorem test_add_A_d8_1 : holds (step ((start [0xC6, 0x01]).setReg .A 0xFF))
    (fun t => t.reg .A == 0x00 && t.f == 0xB0) = true := by decide
theorem test_add_A_d8_2 : holds (step ((start [0xC6, 0x01]).setReg .A 0x0F))
    (fun t => t.reg .A == 0x10 && t.f == 0x20) = true := by decide
theorem test_add_A_A_1 : holds (step ((start [0x87]).setReg .A 0x80))
    (fun t => t.reg .A == 0x00 && t.f == 0x90) = true := by decide
theorem test_add_A_B_1 : holds (step (((start [0x80]).setReg .A 0x3A).setReg .B 0xC6))
    (fun t => t.reg .A == 0x00 && t.f == 0xB0) = true := by decide
theorem test_adc_A_d8_1 : holds (step (((start [0xCE, 0x00]).setReg .A 0xFF).setFlags (Flags.ofByte 0x10)))
    (fun t => t.reg .A == 0x00 && t.f == 0xB0) = true := by decide
theorem test_adc_A_d8_2 : holds (step (((start [0xCE, 0x0F]).setReg .A 0x00).setFlags (Flags.ofByte 0x10)))
    (fun t => t.reg .A == 0x10 && t.f == 0x20) = true := by decide
theorem test_sub_d8_1 : holds (step ((start [0xD6, 0x01]).setReg .A 0x10))
    (fun t => t.reg .A == 0x0F && t.f == 0x60) = true := by decide
theorem test_sub_d8_2 : holds (step ((start [0xD6, 0x01]).setReg .A 0x00))
    (fun t => t.reg .A == 0xFF && t.f == 0x70) = true := by decide
theorem test_sub_A_1 : holds (step ((start [0x97]).setReg .A 0x3C))
    (fun t => t.reg .A == 0x00 && t.f == 0xC0) = true := by decide
theorem test_sbc_A_d8_1 : holds (step (((start [0xDE, 0xFF]).setReg .A 0x00).setFlags (Flags.ofByte 0x10)))
    (fun t => t.reg .A == 0x00 && t.f == 0xF0) = true := by decide
theorem test_sbc_A_d8_2 : holds (step (((start [0xDE, 0x0F]).setReg .A 0x10).setFlags (Flags.ofByte 0x10)))
    (fun t => t.reg .A == 0x00 && t.f == 0xE0) = true := by decide
theorem test_sbc_A_A_1 : holds (step (((start [0x9F]).setReg .A 0x77).setFlags (Flags.ofByte 0x10)))
    (fun t => t.reg .A == 0xFF && t.f == 0x70) = true := by decide
theorem test_cp_d8_1 : holds (step ((start [0xFE, 0x3C]).setReg .A 0x3C))
    (fun t => t.reg .A == 0x3C && t.f == 0xC0) = true := by decide
theorem test_cp_d8_2 : holds (step ((start [0xFE, 0x40]).setReg .A 0x3C))
    (fun t => t.reg .A == 0x3C && t.f == 0x50) = true := by decide
theorem test_and_d8_1 : holds (step ((start [0xE6, 0x0F]).setReg .A 0xF0))
    (fun t => t.reg .A == 0x00 && t.f == 0xA0) = true := by decide
theorem test_and_d8_2 : holds (step ((start [0xE6, 0x3C]).setReg .A 0x5A))
    (fun t => t.reg .A == 0x18 && t.f == 0x20) = true := by decide
theorem test_xor_A_1 : holds (step (((start [0xAF]).setReg .A 0x5A).setFlags (Flags.ofByte 0xF0)))
    (fun t => t.reg .A == 0x00 && t.f == 0x80) = true := by decide
theorem test_xor_d8_1 : holds (step ((start [0xEE, 0xFF]).setReg .A 0x0F))
    (fun t => t.reg .A == 0xF0 && t.f == 0x00) = true := by decide
theorem test_or_d8_1 : holds (step (((start [0xF6, 0x00]).setReg .A 0x00).setFlags (Flags.ofByte 0xF0)))
    (fun t => t.reg .A == 0x00 && t.f == 0x80) = true := by decide
theorem test_or_B_1 : holds (step (((start [0xB0]).setReg .A 0x05).setReg .B 0x50))
    (fun t => t.reg .A == 0x55 && t.f == 0x00) = true := by decide
theorem test_inc_A_1 : holds (step (((start [0x3C]).setReg .A 0xFF).setFlags (Flags.ofByte 0x10)))
    (fun t => t.reg .A == 0x00 && t.f == 0xB0) = true := by decide
theorem test_inc_A_2 : holds (step ((start [0x3C]).setReg .A 0x0F))
    (fun t => t.reg .A == 0x10 && t.f == 0x20) = true := by decide
theorem test_dec_A_1 : holds (step ((start [0x3D]).setReg .A 0x00))
    (fun t => t.reg .A == 0xFF && t.f == 0x60) = true := by decide
theorem test_dec_A_2 : holds (step (((start [0x3D]).setReg .A 0x10).setFlags (Flags.ofByte 0x10)))
    (fun t => t.reg .A == 0x0F && t.f == 0x70) = true := by decide
theorem test_dec_B_1 : holds (step (((start [0x05]).setReg .B 0x01).setFlags (Flags.ofByte 0x10)))
    (fun t => t.reg .B == 0x00 && t.f == 0xD0) = true := by decide
theorem test_inc_mHL_1 : holds (step (((start [0x34]).poke 0xC100 0xFF).setHl 0xC100))
    (fun t => t.peek 0xC100 == 0x00 && t.peek 0xE100 == 0x00 && t.f == 0xA0) = true := by decide
theorem test_dec_mHL_1 : holds (step (((start [0x35]).poke 0x4000 0x01).setHl 0x4000))
    (fun t => t.peek 0x4000 == 0x01 && t.f == 0xC0) = true := by decide
theorem test_daa_1 : holds (step (((start [0x27]).setReg .A 0x3C).setFlags (Flags.ofByte 0x00)))
    (fun t => t.reg .A == 0x42 && t.f == 0x00) = true := by decide
theorem test_daa_2 : holds (step (((start [0x27]).setReg .A 0x9A).setFlags (Flags.ofByte 0x00)))
    (fun t => t.reg .A == 0x00 && t.f == 0x90) = true := by decide
theorem test_cpl_1 : holds (step (((start [0x2F]).setReg .A 0x35).setFlags (Flags.ofByte 0x90)))
    (fun t => t.reg .A == 0xCA && t.f == 0xF0) = true := by decide
theorem test_scf_1 : holds (step ((start [0x37]).setFlags (Flags.ofByte 0xE0)))
    (fun t => t.f == 0x90) = true := by decide
theorem test_ccf_1 : holds (step ((start [0x3F]).setFlags (Flags.ofByte 0xF0)))
    (fun t => t.f == 0x80) = true := by decide
theorem test_ccf_2 : holds (step ((start [0x3F]).setFlags (Flags.ofByte 0x00)))
    (fun t => t.f == 0x10) = true := by decide
theorem test_add_HL_BC_1 : holds (step ((((start [0x09]).setHl 0x0FFF).setBc 0x0001).setFlags (Flags.ofByte 0x80)))
    (fun t => t.hl == 0x1000 && t.f == 0xA0) = true := by decide
theorem test_add_HL_BC_2 : holds (step ((((start [0x09]).setHl 0xFFFF).setBc 0x0001).setFlags (Flags.ofByte 0x40)))
    (fun t => t.hl == 0x0000 && t.f == 0x30) = true := by decide
theorem test_add_HL_HL_1 : holds (step ((start [0x29]).setHl 0x8000))
    (fun t => t.hl == 0x0000 && t.f == 0x10) = true := by decide
theorem test_add_HL_SP_1 : holds (step (((start [0x39]).setHl 0x00FF).setSp 0x0001))
    (fun t => t.hl == 0x0100 && t.f == 0x00) = true := by decide
theorem test_inc_BC_1 : holds (step (((start [0x03]).setBc 0xFFFF).setFlags (Flags.ofByte 0xF0)))
    (fun t => t.bc == 0x0000 && t.f == 0xF0) = true := by decide
theorem test_dec_SP_1 : holds (step ((start [0x3B]).setSp 0x0000))
    (fun t => t.sp == 0xFFFF && t.f == 0x00) = true := by decide
theorem test_add_SP_r8_1 : holds (step (((start [0xE8, 0x08]).setSp 0xFFF8).setFlags (Flags.ofByte 0xC0)))
    (fun t => t.sp == 0x0000 && t.f == 0x30) = true := by decide
theorem test_add_SP_r8_2 : holds (step ((start [0xE8, 0xFF]).setSp 0x0000))
    (fun t => t.sp == 0xFFFF && t.f == 0x00) = true := by decide
theorem test_rlca_1 : holds (step ((start [0x07]).setReg .A 0x80))
    (fun t => t.reg .A == 0x01 && t.f == 0x10) = true := by decide
theorem test_rlca_2 : holds (step (((start [0x07]).setReg .A 0x00).setFlags (Flags.ofByte 0xF0)))
    (fun t => t.reg .A == 0x00 && t.f == 0x00) = true := by decide
theorem test_rla_1 : holds (step ((start [0x17]).setReg .A 0x80))
    (fun t => t.reg .A == 0x00 && t.f == 0x10) = true := by decide
theorem test_rla_2 : holds (step (((start [0x17]).setReg .A 0x00).setFlags (Flags.ofByte 0x10)))
    (fun t => t.reg .A == 0x01 && t.f == 0x00) = true := by decide
theorem test_rrca_1 : holds (step ((start [0x0F]).setReg .A 0x01))
    (fun t => t.reg .A == 0x80 && t.f == 0x10) = true := by decide
theorem test_rra_1 : holds (step ((start [0x1F]).setReg .A 0x01))
    (fun t => t.reg .A == 0x00 && t.f == 0x10) = true := by decide
theorem test_rra_2 : holds (step (((start [0x1F]).setReg .A 0x00).setFlags (Flags.ofByte 0x10)))
    (fun t => t.reg .A == 0x80 && t.f == 0x00) = true := by decide
theorem test_rlc_B_1 : holds (step (((start [0xCB, 0x00]).setReg .B 0x00).setFlags (Flags.ofByte 0x70)))
    (fun t => t.reg .B == 0x00 && t.f == 0x80 && t.pc == 0xC002) = true := by decide
theorem test_rlc_B_2 : holds (step ((start [0xCB, 0x00]).setReg .B 0x85))
    (fun t => t.reg .B == 0x0B && t.f == 0x10) = true := by decide
theorem test_rrc_C_1 : holds (step ((start [0xCB, 0x09]).setReg .C 0x01))
    (fun t => t.reg .C == 0x80 && t.f == 0x10) = true := by decide
theorem test_rl_D_1 : holds (step ((start [0xCB, 0x12]).setReg .D 0x80))
    (fun t => t.reg .D == 0x00 && t.f == 0x90) = true := by decide
theorem test_rr_E_1 : holds (step (((start [0xCB, 0x1B]).setReg .E 0x01).setFlags (Flags.ofByte 0x10)))
    (fun t => t.reg .E == 0x80 && t.f == 0x10) = true := by decide
theorem test_rl_mHL_1 : holds (step ((((start [0xCB, 0x16]).poke 0xC200 0x40).setHl 0xC200).setFlags (Flags.ofByte 0x10)))
    (fun t => t.peek 0xC200 == 0x81 && t.peek 0xE200 == 0x81 && t.f == 0x00) = true := by decide
theorem test_sla_A_1 : holds (step ((start [0xCB, 0x27]).setReg .A 0x80))
    (fun t => t.reg .A == 0x00 && t.f == 0x90) = true := by decide
theorem test_sla_A_2 : holds (step ((start [0xCB, 0x27]).setReg .A 0x41))
    (fun t => t.reg .A == 0x82 && t.f == 0x00) = true := by decide
theorem test_sra_A_1 : holds (step ((start [0xCB, 0x2F]).setReg .A 0x81))
    (fun t => t.reg .A == 0xC0 && t.f == 0x10) = true := by decide
theorem test_sra_A_2 : holds (step ((start [0xCB, 0x2F]).setReg .A 0x01))
    (fun t => t.reg .A == 0x00 && t.f == 0x90) = true := by decide
theorem test_srl_A_1 : holds (step ((start [0xCB, 0x3F]).setReg .A 0x81))
    (fun t => t.reg .A == 0x40 && t.f == 0x10) = true := by decide
theorem test_srl_A_2 : holds (step ((start [0xCB, 0x3F]).setReg .A 0x01))
    (fun t => t.reg .A == 0x00 && t.f == 0x90) = true := by decide
theorem test_swap_A_1 : holds (step (((start [0xCB, 0x37]).setReg .A 0xF0).setFlags (Flags.ofByte 0xF0)))
    (fun t => t.reg .A == 0x0F && t.f == 0x00) = true := by decide
theorem test_swap_B_1 : holds (step (((start [0xCB, 0x30]).setReg .B 0x00).setFlags (Flags.ofByte 0x10)))
    (fun t => t.reg .B == 0x00 && t.f == 0x80) = true := by decide
theorem test_bit_7_H_1 : holds (step (((start [0xCB, 0x7C]).setReg .H 0x80).setFlags (Flags.ofByte 0x50)))
    (fun t => t.f == 0x30) = true := by decide
theorem test_bit_0_A_1 : holds (step ((start [0xCB, 0x47]).setReg .A 0xFE))
    (fun t => t.f == 0xA0) = true := by decide
theorem test_bit_0_mHL_1 : holds (step (((start [0xCB, 0x46]).poke 0xFF04 0x01).setHl 0xFF04))
    (fun t => t.peek 0xFF04 == 0x00 && t.f == 0x20) = true := by decide
theorem test_res_0_A_1 : holds (step (((start [0xCB, 0x87]).setReg .A 0xFF).setFlags (Flags.ofByte 0xF0)))
    (fun t => t.reg .A == 0xFE && t.f == 0xF0) = true := by decide
theorem test_set_7_mHL_1 : holds (step ((start [0xCB, 0xFE]).setHl 0xC300))
    (fun t => t.peek 0xC300 == 0x80 && t.peek 0xE300 == 0x80) = true := by decide
theorem test_set_0_mHL_1 : holds (step ((start [0xCB, 0xC6]).setHl 0x2000))
    (fun t => t.peek 0x2000 == 0x00) = true := by decide
theorem test_set_1_E_1 : holds (step ((start [0xCB, 0xCB]).setReg .E 0x00))
    (fun t => t.reg .E == 0x02 && t.pc == 0xC002) = true := by decide
theorem test_jp_a16_1 : holds (step (start [0xC3, 0x50, 0x01]))
    (fun t => t.pc == 0x0150) = true := by decide
theorem test_jp_Z_a16_1 : holds (step ((start [0xCA, 0x50, 0x01]).setFlags (Flags.ofByte 0x00)))
    (fun t => t.pc == 0xC003) = true := by decide
theorem test_jp_Z_a16_2 : holds (step ((start [0xCA, 0x50, 0x01]).setFlags (Flags.ofByte 0x80)))
    (fun t => t.pc == 0x0150) = true := by decide
theorem test_jp_NC_a16_1 : holds (step ((start [0xD2, 0x50, 0x01]).setFlags (Flags.ofByte 0x10)))
    (fun t => t.pc == 0xC003) = true := by decide
theorem test_jp_mHL_1 : holds (step ((start [0xE9]).setHl 0x4000))
    (fun t => t.pc == 0x4000) = true := by decide
theorem test_jr_r8_1 : holds (step (start [0x18, 0xFE]))
    (fun t => t.pc == 0xC000) = true := by decide
theorem test_jr_r8_2 : holds (step (start [0x18, 0x7F]))
    (fun t => t.pc == 0xC081) = true := by decide
theorem test_jr_NZ_r8_1 : holds (step ((start [0x20, 0x05]).setFlags (Flags.ofByte 0x80)))
    (fun t => t.pc == 0xC002) = true := by decide
theorem test_jr_C_r8_1 : holds (step ((start [0x38, 0x05]).setFlags (Flags.ofByte 0x10)))
    (fun t => t.pc == 0xC007) = true := by decide
theorem test_call_a16_1 : holds (step ((start [0xCD, 0x34, 0x12]).setSp 0xD000))
    (fun t => t.peek 0xCFFF == 0xC0 && t.peek 0xCFFE == 0x03 && t.sp == 0xCFFE && t.pc == 0x1234) = true := by decide
theorem test_call_C_a16_1 : holds (step (((start [0xDC, 0x34, 0x12]).setFlags (Flags.ofByte 0x00)).setSp 0xD000))
    (fun t => t.pc == 0xC003 && t.sp == 0xD000) = true := by decide
theorem test_ret_1 : holds (step ((((start [0xC9]).poke 0xC100 0x03).poke 0xC101 0x02).setSp 0xC100))
    (fun t => t.pc == 0x0203 && t.sp == 0xC102) = true := by decide
theorem test_ret_NZ_1 : holds (step (((start [0xC0]).setFlags (Flags.ofByte 0x80)).setSp 0xC100))
    (fun t => t.pc == 0xC001 && t.sp == 0xC100) = true := by decide
theorem test_reti_1 : holds (step ((((start [0xD9]).poke 0xC100 0x03).poke 0xC101 0x02).setSp 0xC100))
    (fun t => t.pc == 0x0203 && t.sp == 0xC102 && t.ime == .enabled) = true := by decide
theorem test_rst_38_1 : holds (step ((start [0xFF]).setSp 0xD000))
    (fun t => t.peek 0xCFFF == 0xC0 && t.peek 0xCFFE == 0x01 && t.sp == 0xCFFE && t.pc == 0x0038) = true := by decide
theorem test_rst_00_1 : holds (step ((at' 0xC0FF [0xC7]).setSp 0xD000))
    (fun t => t.peek 0xCFFF == 0xC1 && t.peek 0xCFFE == 0x00 && t.pc == 0x0000) = true := by decide
theorem test_nop_1 : holds (step (start [0x00]))
    (fun t => t.pc == 0xC001) = true := by decide
theorem test_stop_1 : holds (step (start [0x10, 0x00]))
    (fun t => t.pc == 0xC002) = true := by decide
theorem test_halt_1 : holds (step (start [0x76]))
    (fun t => t.pc == 0xC000 && t.halted) = true := by decide
theorem test_di_1 : holds (step ((start [0xF3]).setIme .enabled))
    (fun t => t.pc == 0xC001 && t.ime == .disabled) = true := by decide
theorem test_ei_1 : holds (step (start [0xFB]))
    (fun t => t.ime == .scheduled .two) = true := by decide
theorem test_illegal_D3_1 : holds (step (start [0xD3]))
    (fun t => t.pc == 0xC001 && t.events == [.illegalOpcode 0xD3 0xC000]) = true := by decide

theorem test_illegal_ED_strict :
    step { start [0xED] with policy := { Policy.default with illegalOpcode := .strict } } =
      .fault (.illegalOpcode 0xED 0xC000) := rfl
theorem test_stop_refuse :
    step { start [0x10, 0x00] with policy := { Policy.default with stop := .refuse } } =
      .refused .stopOutsideSpec := rfl

/-! ### The bus, 95_test_vectors section 2.8: `LD (HL),A` -/

/-- A write of A to HL from the start state. -/
def storing (a : Word) (v : Byte) : State := ((start [0x77]).setHl a).setReg .A v

theorem test_bus_echo_top : holds (step (storing 0xFDFF 0x07)) (fun t => t.peek 0xFDFF == 0x07 && t.peek 0xDDFF == 0x07) =
    true := by decide
theorem test_bus_oam : holds (step (storing 0xFE00 0x07)) (fun t => t.peek 0xFE00 == 0x07 && t.peek 0xDE00 == 0x00) =
    true := by decide
theorem test_bus_unusable_top : holds (step (storing 0xFEFF 0x01))
    (fun t => t.peek 0xFEFF == 0x00 && t.events == [.unusableWrite 0xFEFF 0x01]) = true := by decide
theorem test_bus_joyp_clears : holds (step (storing 0xFF00 0x00)) (fun t => t.peek 0xFF00 == 0xCF) = true := by decide
theorem test_bus_joyp_one_line : holds (step (storing 0xFF00 0x10)) (fun t => t.peek 0xFF00 == 0xDF) = true := by decide
theorem test_bus_tac : holds (step (storing 0xFF07 0xFF)) (fun t => t.peek 0xFF07 == 0x07) = true := by decide
theorem test_bus_div : holds (step (((storing 0xFF04 0x5A).setCtr 0x1234).poke 0xFF04 0x12))
    (fun t => t.ctr == 0x0001 && t.peek 0xFF04 == 0x00) = true := by decide
theorem test_dma_copy : (Memory.dmaCopy [(0x8000, 0x01), (0x8001, 0x02), (0x8002, 0x03)] 0x8000 2) =
    [(0x8000, 0x01), (0x8001, 0x02), (0x8002, 0x03), (0xFE00, 0x01), (0xFE01, 0x02)] := by decide
theorem test_bus_dma_is_a_copy_of_160 (v : Byte) (s : State) :
    busEffect 0xFF46 v s = (s.poke 0xFF46 v).setMem ((s.poke 0xFF46 v).mem.dmaCopy (v.toNat * 0x100) 160) := rfl
theorem test_bus_if_is_plain : holds (step (storing 0xFF0F 0xFF)) (fun t => t.peek 0xFF0F == 0xFF) = true := by decide

/-! ### Interrupts, HALT and the timer, 95_test_vectors sections 2.9 and 2.10 -/

/-- The start state with IF and IE set by the host. -/
def requesting (bytes : List Byte) (ifv iev : Byte) : State := ((start bytes).poke 0xFF0F ifv).poke 0xFFFF iev

theorem test_interrupt_of_the_enabled_bit : holds (step (((requesting [] 0x14 0x10).setIme .enabled)))
    (fun t => t.peek 0xFF0F == 0x04 && t.pc == 0x0061 && t.ime == .disabled) = true := by decide
theorem test_interrupt_at_the_count : holds (step (((requesting [] 0x05 0x1F).setIme (.scheduled .one)).setSp 0xD000))
    (fun t => t.peek 0xFF0F == 0x04 && t.pc == 0x0041 && t.sp == 0xCFFE && t.peek 0xCFFF == 0xC0 && t.peek 0xCFFE == 0x00) =
    true := by decide
theorem test_no_interrupt_while_disabled : holds (step (requesting [] 0x1F 0x1F)) (fun t => t.pc == 0xC001) = true := by
  decide
theorem test_interrupt_bits_above_4_ignored : holds (step ((requesting [] 0xE0 0xFF).setIme .enabled))
    (fun t => t.pc == 0xC001) = true := by decide
theorem test_halted_stays : holds (step ((requesting [0x76, 0x3C] 0x01 0x00).setHalted true))
    (fun t => t.halted && t.pc == 0xC000 && t.ctr == 0x0001) = true := by decide
theorem test_halted_wakes_without_dispatch : holds (step (((requesting [0x76, 0x3C] 0x01 0x01).setHalted true).setReg .A 0x01))
    (fun t => !t.halted && t.pc == 0xC002 && t.a == 0x02 && t.peek 0xFF0F == 0x01) = true := by decide
theorem test_halted_wakes_and_dispatches :
    holds (step ((((requesting [0x76] 0x04 0x04).setHalted true).setIme .enabled).setSp 0xD000))
    (fun t => t.pc == 0x0051 && t.peek 0xCFFF == 0xC0 && t.peek 0xCFFE == 0x01 && t.peek 0xFF0F == 0x00) = true := by decide
theorem test_timer_wrap_of_the_counter : holds (step (((start []).poke 0xFF07 0x04).setCtr 0xFFFF))
    (fun t => t.ctr == 0x0000 && t.peek 0xFF04 == 0x00 && t.peek 0xFF05 == 0x01) = true := by decide
theorem test_timer_overflow :
    holds (step (((((start []).poke 0xFF07 0x05).poke 0xFF05 0xFF).poke 0xFF06 0xAB).setCtr 0x0007))
    (fun t => t.peek 0xFF05 == 0xAB && t.peek 0xFF0F == 0x04) = true := by decide
theorem test_timer_off : holds (step (((start []).poke 0xFF07 0x01).setCtr 0x0003)) (fun t => t.peek 0xFF05 == 0x00) =
    true := by decide
theorem test_load_byte_for_byte : holds (load [0x3E, 0x05, 0xC6] State.reset)
    (fun t => t.peek 0x0000 == 0x3E && t.peek 0x0002 == 0xC6 && t.peek 0x0003 == 0x00) = true := by decide
/-- R302: DIV and the bytes below 0x8000 stay zero whatever `RESET_IO` is passed; another byte of it is held. -/
theorem test_reset_io : (resetWith { ResetParams.default with io := [(0xFF04, 0x5A), (0x2000, 0x11), (0xFF40, 0x91)] }).mem =
    [(0xFF40, 0x91)] := by decide
theorem test_start_from_the_boot_address :
    holds (startWith { ResetParams.default with pc := .bootRom, io := [(0x0000, 0x00), (0xFF05, 0x07)] } [0x3E, 0x05])
    (fun t => t.pc == 0x0000 && t.peek 0x0000 == 0x3E && t.peek 0x0001 == 0x05 && t.peek 0xFF05 == 0x07) = true := by decide
theorem test_input_write : (inputWrite 0x0E State.reset).peek 0xFF00 = 0xCE := by decide
theorem test_request_interrupt : (requestInterrupt .joypad State.reset).peek 0xFF0F = 0x10 := by decide

theorem test_reset_memory_is_canonical : State.reset.mem.wf = true := rfl
theorem test_spelling : (Instr.ld_BC_d16 0).spelling = "LD BC,d16" ∧ (Instr.rst_38).spelling = "RST 38H" ∧
    (Instr.ld_mHLi_A).otherSpellings = ["LDI (HL),A", "LD (HLI),A"] := ⟨rfl, rfl, rfl⟩

/-! ### Witnesses: one state for each statement with hypotheses, at the boundaries of each clause -/

/-- The strict policies. -/
def strictly (s : State) : State := { s with policy := { illegalOpcode := .strict, unusableWrite := .strict, stop := .refuse } }

theorem witness_DecodeEncodeRoundTrip : (Instr.ld_BC_d16 0x1234).wellFormed = true ∧ (Instr.set_7_A).wellFormed = true := by
  decide

theorem witness_SourceOpcodesDecode :
    (0xD3 : Byte) ∈ ([0xD3, 0xDB, 0xDD, 0xE3, 0xE4, 0xEB, 0xEC, 0xED, 0xF4, 0xFC, 0xFD] : List Byte) ∧
    (0xFD : Byte) ∈ ([0xD3, 0xDB, 0xDD, 0xE3, 0xE4, 0xEB, 0xEC, 0xED, 0xF4, 0xFC, 0xFD] : List Byte) := by decide

theorem witness_StepRunsTheDecodedInstruction : ∃ t : State,
    beforeInstruction (start [0x3E, 0x05]) = .next t ∧ t.halted = false ∧
    decode [t.peek t.pc, t.peek (t.pc + 1), t.peek (t.pc + 2)] = .ok (.ld_A_d8 0x05, [0x00]) :=
  ⟨_, rfl, by decide, by decide⟩

theorem witness_StepRuns_quiet :
    (start []).halted = false ∧ (start []).ime.tick ≠ .enabled ∧
    ((start []).setIme .enabled).halted = false ∧ (∀ j : Irq, j.active ((start []).setIme .enabled) = false) := by
  refine ⟨rfl, by decide, rfl, ?_⟩
  intro j
  cases j <;> decide

theorem witness_HaltedStepAndWake :
    ((start []).setHalted true).halted = true ∧ wakeCondition ((start []).setHalted true) = false ∧
    ((requesting [] 0x10 0x10).setHalted true).halted = true ∧
    wakeCondition ((requesting [] 0x10 0x10).setHalted true) = true ∧
    ((requesting [] 0x10 0x10).setHalted true).ime.tick ≠ .enabled := by decide

theorem witness_DispatchEntersTheVector_lowest :
    let s := strictly ((requesting [] 0x1F 0x1F).setIme .enabled)
    s.ime.tick = .enabled ∧ Irq.vblank.active s = true ∧ (∀ j : Irq, j.bit < Irq.vblank.bit → j.active s = false) ∧
    s.mayStore (s.sp - 1) ∧ s.mayStore (s.sp - 2) := by
  refine ⟨rfl, by decide, ?_, .inr (by decide), .inr (by decide)⟩
  intro j h
  exact absurd h (by cases j <;> decide)

theorem witness_DispatchEntersTheVector_highest :
    let s := strictly (((requesting [] 0xF0 0x1F).setIme (.scheduled .one)).setSp 0xFF02)
    s.ime.tick = .enabled ∧ Irq.joypad.active s = true ∧ (∀ j : Irq, j.bit < Irq.joypad.bit → j.active s = false) ∧
    s.mayStore (s.sp - 1) ∧ s.mayStore (s.sp - 2) := by
  refine ⟨rfl, by decide, ?_, .inr (by decide), .inr (by decide)⟩
  intro j h
  cases j <;> first | decide | exact absurd h (by decide)

theorem witness_DispatchDisablesAndUsesTheVectorTable : ∃ t : State, takeInterrupt .serial (requesting [] 0x08 0x08) = .next t :=
  ⟨_, rfl⟩

theorem witness_OnlyListedEventsChangeIme :
    (∃ t, exec .di ((start []).setIme .enabled) = .next t) ∧ (∃ t, exec .ei (start []) = .next t) ∧
    (∃ t, exec .reti (start []) = .next t) ∧ (∃ t, exec .rst_38 (start []) = .next t) ∧
    (∃ t, beforeInstruction ((requesting [] 0x01 0x01).setIme (.scheduled .one)) = .next t) ∧
    (∃ t, beforeInstruction ((requesting [] 0x01 0x01).setIme (.scheduled .two)) = .next t) :=
  ⟨⟨_, rfl⟩, ⟨_, rfl⟩, ⟨_, rfl⟩, ⟨_, rfl⟩, ⟨_, rfl⟩, ⟨_, rfl⟩⟩

theorem witness_EiTakesEffectAfterOneInstruction : ∃ s t u : State, s.ime = .disabled ∧ s.halted = false ∧
    decode3 (s.peek s.pc) (s.peek (s.pc + 1)) (s.peek (s.pc + 2)) = .ei ∧ step s = .next t ∧ step t = .next u ∧
    fetchInstr t ≠ .di ∧ fetchInstr t ≠ .reti :=
  ⟨requesting [0xFB] 0x01 0x01, _, _, rfl, rfl, by decide, rfl, rfl, by decide, by decide⟩

theorem witness_DivMirrorsTheCounterAfterEveryStep :
    (∃ t, step ((storing 0xFF04 0x5A).poke 0xFF04 0x77) = .next t) ∧ (∃ t, step ((start []).setCtr 0xFFFF) = .next t) :=
  ⟨⟨_, rfl⟩, ⟨_, rfl⟩⟩

theorem witness_StepKeepsMemoryCanonical : ∃ t, (storing 0xC010 0x42).mem.wf = true ∧
    (storing 0xC010 0x42).mem ≠ [] ∧ step (storing 0xC010 0x42) = .next t := ⟨_, by decide, by decide, rfl⟩

/-- A state with a byte in both aliases, about to store another. -/
def mirrored : State :=
  { State.reset with pc := 0x4000, h := 0xDD, l := 0xFF, mem := [(0x4000, 0x77), (0xC000, 0x42), (0xE000, 0x42)] }

theorem witness_StepKeepsEchoRam : mirrored.echoed ∧ ∃ t, step mirrored = .next t := by
  refine ⟨?_, _, rfl⟩
  intro x h1 h2
  have h3 : (x + 0x2000).toNat = x.toNat + 0x2000 := by
    rw [BitVec.toNat_add]
    simp
    omega
  simp only [State.peek, mirrored, Memory.read, Memory.unlisted, h3]
  by_cases hx : x.toNat = 0xC000
  · simp [hx]
  · rw [if_neg (by omega), if_neg hx, if_neg (by omega), if_neg (by omega), if_neg (by omega), if_neg (by omega),
      if_neg (by omega), if_neg (by omega)]

theorem witness_StepNeverChangesRomOrTheUnusableRegion :
    (∃ t, step (storing 0x7FFF 0x01) = .next t) ∧ (0x7FFF : Word).toNat < 0x8000 ∧
    (∃ t, step (storing 0xFEA0 0x01) = .next t) ∧ 0xFEA0 ≤ (0xFEA0 : Word).toNat ∧ (0xFEFF : Word).toNat ≤ 0xFEFF :=
  ⟨⟨_, rfl⟩, by decide, ⟨_, rfl⟩, by decide, by decide⟩

theorem witness_StepKeepsTheFixedBitsOfJoypAndTac :
    (∃ t, step (storing 0xFF00 0xFF) = .next t) ∧ (∃ t, step (storing 0xFF07 0xFF) = .next t) := ⟨⟨_, rfl⟩, ⟨_, rfl⟩⟩

theorem witness_PermissiveStepIsTotal : (storing 0xFEA0 0x01).permissive := ⟨rfl, rfl, rfl⟩

theorem witness_StopsOnlyUnderAStrictPolicy :
    step (strictly (start [0xFD])) = .fault (.illegalOpcode 0xFD 0xC000) ∧
    step (strictly (storing 0xFEA0 0x01)) = .fault (.unusableWrite 0xFEA0 0x01) ∧
    step (strictly (storing 0xFEFF 0x01)) = .fault (.unusableWrite 0xFEFF 0x01) ∧
    step (strictly (start [0x10])) = .refused .stopOutsideSpec := ⟨rfl, rfl, rfl, rfl⟩

theorem witness_ExecChangesOnlyTheBytesItStoresTo :
    (∃ t, exec .ld_mHL_A (storing 0xC010 0x42) = .next t) ∧
    (∀ a ∈ (Instr.ld_mHL_A).storeAddresses (storing 0xC010 0x42), touches a 0xE011 = false) ∧
    (∃ t, exec .push_AF (start []) = .next t) ∧
    (∀ a ∈ (Instr.push_AF).storeAddresses (start []), touches a 0xFFFE = false) := by
  have h1 : (Instr.ld_mHL_A).storeAddresses (storing 0xC010 0x42) = [0xC010] := rfl
  have h2 : (Instr.push_AF).storeAddresses (start []) = [0xFFFD, 0xFFFC] := rfl
  rw [h1, h2]
  exact ⟨⟨_, rfl⟩, List.forall_mem_singleton.2 (by decide), ⟨_, rfl⟩,
    List.forall_mem_cons.2 ⟨by decide, List.forall_mem_singleton.2 (by decide)⟩⟩

/-- A store is no illegal row. -/
theorem ld_mHL_A_ne_illegalRow (k : IllegalOp) : Instr.ld_mHL_A ≠ .illegalRow k := by
  intro h
  exact absurd (congrArg encode h) (by cases k <;> decide)

theorem witness_ExecChangesOnlyItsRegisters :
    (∃ t, exec .ld_A_mHLi (start []) = .next t) ∧ Reg8.B ∉ (Instr.ld_A_mHLi).registersWritten (start []) ∧
    (Instr.ld_A_mHLi).movesSp (start []) = false := ⟨⟨_, rfl⟩, by decide, by decide⟩

theorem witness_ExecChangesOnlyTheFlagsOfTheTable :
    (∃ t, exec .inc_B (start []) = .next t) ∧ FlagName.C ∉ (Instr.inc_B).flagsWritten (start []) ∧
    (∃ t, exec .pop_BC (start []) = .next t) ∧ FlagName.Z ∉ (Instr.pop_BC).flagsWritten (start []) :=
  ⟨⟨_, rfl⟩, by decide, ⟨_, rfl⟩, by decide⟩

theorem witness_ExecControlStateFrame :
    (∃ t, exec .halt (start []) = .next t) ∧ (∃ t, exec .ld_mHL_A (storing 0xFF04 0x00) = .next t) ∧
    0xFF04 ∈ (Instr.ld_mHL_A).storeAddresses (storing 0xFF04 0x00) ∧
    (∀ k : IllegalOp, Instr.ld_mHL_A ≠ .illegalRow k) ∧
    (∀ a ∈ (Instr.ld_mHL_A).storeAddresses (storing 0xFF04 0x00), ¬ (0xFEA0 ≤ a.toNat ∧ a.toNat ≤ 0xFEFF)) := by
  have h : (Instr.ld_mHL_A).storeAddresses (storing 0xFF04 0x00) = [0xFF04] := rfl
  rw [h]
  exact ⟨⟨_, rfl⟩, ⟨_, rfl⟩, by decide, ld_mHL_A_ne_illegalRow, List.forall_mem_singleton.2 (by decide)⟩

theorem witness_EveryInstructionCompletes_strict :
    (∀ a ∈ (Instr.ld_mHL_A).storeAddresses (strictly (storing 0xFE9F 0x01)), (strictly (storing 0xFE9F 0x01)).mayStore a) ∧
    (∀ k : IllegalOp, Instr.ld_mHL_A ≠ .illegalRow k) ∧ (∀ pad : Byte, Instr.ld_mHL_A ≠ .stop pad) := by
  have h : (Instr.ld_mHL_A).storeAddresses (strictly (storing 0xFE9F 0x01)) = [0xFE9F] := rfl
  rw [h]
  refine ⟨?_, ld_mHL_A_ne_illegalRow, fun pad h => ?_⟩
  · intro a ha
    cases List.mem_singleton.1 ha
    exact .inr (by decide)
  · exact absurd (show (1 : Nat) = 2 from congrArg List.length (congrArg encode h)) (by decide)

theorem witness_EveryInstructionCompletes_permissive :
    (∀ a ∈ (Instr.ld_mHL_A).storeAddresses (storing 0xFEA0 0x01), (storing 0xFEA0 0x01).mayStore a) ∧
    (start []).policy.illegalOpcode = .permissive ∧ (start []).policy.stop = .nop2 := ⟨fun _ _ => .inl rfl, rfl, rfl⟩

/-- Stores just outside the unusable region are no faults under the strict policy. -/
theorem witness_mayStore_boundaries :
    (strictly (storing 0xFE9F 0x01)).mayStore (strictly (storing 0xFE9F 0x01)).hl ∧
    (strictly (storing 0xFF00 0x01)).mayStore (strictly (storing 0xFF00 0x01)).hl ∧
    (storing 0xFEA0 0x01).mayStore (storing 0xFEA0 0x01).hl ∧
    (storing 0xFEFF 0x01).mayStore (storing 0xFEFF 0x01).hl :=
  ⟨.inr (by decide), .inr (by decide), .inl rfl, .inl rfl⟩

theorem witness_StoresOfAByte :
    (strictly (storing 0xFE9F 0x01)).mayStore (strictly (storing 0xFE9F 0x01)).hl ∧
    (strictly (start [])).mayStore (strictly (start [])).bc ∧ (strictly (start [])).mayStore (strictly (start [])).de ∧
    (strictly (start [])).mayStore 0xFF00 := ⟨.inr (by decide), .inr (by decide), .inr (by decide), .inr (by decide)⟩

theorem witness_PushAndStoreSp :
    (strictly ((start []).setSp 0xFEA0)).mayStore ((strictly ((start []).setSp 0xFEA0)).sp - 1) ∧
    (strictly ((start []).setSp 0xFEA0)).mayStore ((strictly ((start []).setSp 0xFEA0)).sp - 2) ∧
    (strictly (start [])).mayStore 0xFE9E ∧ (strictly (start [])).mayStore (0xFE9E + 1) :=
  ⟨.inr (by decide), .inr (by decide), .inr (by decide), .inr (by decide)⟩

theorem witness_PopUndoesPush :
    regionOf (((start []).setSp 0xE001).sp - 1) = .echoRam ∧ regionOf (((start []).setSp 0xE001).sp - 2) = .plain ∧
    regionOf (((start []).setSp 0xC002).sp - 1) = .workRam ∧ regionOf (((start []).setSp 0xC002).sp - 2) = .workRam := by
  decide

theorem witness_IncrementAndDecrement : (strictly (storing 0xFE9F 0x01)).mayStore (strictly (storing 0xFE9F 0x01)).hl :=
  .inr (by decide)

theorem witness_DecimalAdjustGivesDecimalSums :
    (0x99 : Byte).toNat / 16 ≤ 9 ∧ (0x99 : Byte).toNat % 16 ≤ 9 ∧ (0x00 : Byte).toNat / 16 ≤ 9 ∧
    (0x00 : Byte).toNat % 16 ≤ 9 := by decide

theorem witness_CbRotatesAndShifts : (storing 0xFEFF 0x01).mayStore (storing 0xFEFF 0x01).hl := .inl rfl

theorem witness_ResetAndSetBit : (strictly (storing 0xFF00 0x01)).mayStore (strictly (storing 0xFF00 0x01)).hl :=
  .inr (by decide)

theorem witness_CallsAndRestarts :
    (start []).cond .Z = false ∧ ((start []).setFlags (Flags.ofByte 0x80)).cond .Z = true ∧
    (strictly (start [])).mayStore ((strictly (start [])).sp - 1) ∧
    (strictly (start [])).mayStore ((strictly (start [])).sp - 2) :=
  ⟨rfl, rfl, .inr (by decide), .inr (by decide)⟩

theorem witness_HaltStopDiAndEi : (start []).policy.stop = .nop2 ∧ (strictly (start [])).policy.stop = .refuse := ⟨rfl, rfl⟩

theorem witness_IllegalOpcodesReportOrFault :
    (start []).policy.illegalOpcode = .permissive ∧ (strictly (start [])).policy.illegalOpcode = .strict := ⟨rfl, rfl⟩

theorem witness_PrefixRowRunsTheSecondTable :
    (start [0xCB, 0x37]).peek (start [0xCB, 0x37]).pc = 0xCB ∧
    (start [0xCB, 0x37]).mayStore (start [0xCB, 0x37]).hl := ⟨by decide, .inl rfl⟩

/-- The ranges of the bus write at their ends, and no address in two of them. -/
theorem witness_BusWritePolicy :
    (0x7FFF : Word).toNat < 0x8000 ∧
    0xC000 ≤ (0xC000 : Word).toNat ∧ (0xDDFF : Word).toNat ≤ 0xDDFF ∧
    0xE000 ≤ (0xE000 : Word).toNat ∧ (0xFDFF : Word).toNat ≤ 0xFDFF ∧
    ([0x8000, 0xBFFF, 0xDE00, 0xDFFF, 0xFE00, 0xFE9F, 0xFF01, 0xFF0F, 0xFFFF] : List Word).map regionOf =
      List.replicate 9 .plain := by decide

theorem witness_BusWritePolicy_echo : mirrored.echoed ∧ ∃ t, busWrite 0xDDFF 0x01 mirrored = .next t :=
  ⟨witness_StepKeepsEchoRam.1, _, rfl⟩

theorem witness_MaskedAndRefusedWrites :
    (start []).policy.unusableWrite = .permissive ∧ (strictly (start [])).policy.unusableWrite = .strict ∧
    regionOf 0xFEA0 = .unusable ∧ regionOf 0xFEFF = .unusable ∧ regionOf 0xFE9F = .plain ∧ regionOf 0xFF00 = .joyp := by
  decide

theorem witness_LoadPlacesTheImage :
    (List.replicate 0x8000 (0x00 : Byte)).length ≤ 0x8000 ∧ 0x8000 < (List.replicate 0x8001 (0x00 : Byte)).length := by
  rw [List.length_replicate, List.length_replicate]
  decide

/-! ### Clauses on a run -/

theorem test_two_steps_are_a_safe_run : safeRun 2 (start [0xFB, 0x00]) := ⟨_, rfl⟩
theorem test_runUntil_halt : holds (runUntil (fun s => s.halted) 3 (start [0x3C, 0x76])) (fun t => t.a == 0x02 && t.halted) =
    true := by decide

end Sys2Proof.Tests
end

/-! PROOFS. What taking an interrupt leaves in `ime` and PC (10_state R31, 60_exceptions R265). -/

namespace Sys2Proof.Machine

@[simp] theorem pushed_ime (v : Word) (s : State) : (pushed v s).ime = s.ime := by simp [pushed]

@[simp] theorem acknowledged_ime (i : Irq) (s : State) : (acknowledged i s).ime = .disabled := rfl

@[simp] theorem interrupted_ime (i : Irq) (s : State) : (interrupted i s).ime = .disabled := by simp [interrupted]

@[simp] theorem interrupted_pc (i : Irq) (s : State) : (interrupted i s).pc = i.vector := rfl

/-- The computed vector is the entry of the fixed table (R31). -/
theorem vector_eq_table (i : Irq) : i.vector = ([0x40, 0x48, 0x50, 0x58, 0x60] : List Word).getD i.bit 0 := by
  cases i <;> rfl

/-- The vector as a number: `0x0040 + 8 * bit` does not wrap at 16 bits. -/
theorem vector_toNat (i : Irq) : i.vector.toNat = 0x0040 + 8 * i.bit := by
  cases i <;> rfl

/-- Settles O11: a taking that answers a next state answers `interrupted`, whose `ime` and PC are known. -/
theorem dispatchDisablesAndUsesTheVectorTable : Obligations.DispatchDisablesAndUsesTheVectorTable := by
  intro i s t h
  obtain rfl := takeInterrupt_next h
  rw [interrupted_pc]
  exact ⟨interrupted_ime i s, vector_eq_table i, vector_toNat i⟩

end Sys2Proof.Machine

/-! PROOFS. The bus write region by region, and that it keeps work RAM and echo RAM equal (20_memory R44 to R46, R49,
R52). -/

namespace Sys2Proof.Machine

theorem regionOf_rom {a : Word} (h : a.toNat < 0x8000) : regionOf a = .rom := by
  unfold regionOf
  rw [if_pos h]

/-- An address of none of the special ranges is plain (R52). -/
theorem regionOf_plain {a : Word} (hrom : 0x8000 ≤ a.toNat) (hwork : ¬ (0xC000 ≤ a.toNat ∧ a.toNat ≤ 0xDDFF))
    (hecho : ¬ (0xE000 ≤ a.toNat ∧ a.toNat ≤ 0xFDFF)) (hunusable : ¬ (0xFEA0 ≤ a.toNat ∧ a.toNat ≤ 0xFEFF))
    (hio : a ∉ ([0xFF00, 0xFF04, 0xFF07, 0xFF46] : List Word)) : regionOf a = .plain := by
  simp only [List.mem_cons, List.not_mem_nil, or_false, not_or] at hio
  obtain ⟨hjoyp, hdiv, htac, hdma⟩ := hio
  unfold regionOf
  rw [if_neg (by omega), if_neg hwork, if_neg hecho, if_neg hunusable, if_neg hjoyp, if_neg hdiv,
    if_neg htac, if_neg hdma]

section RegionOfTheWrite

variable {a : Word} (v : Byte) (s : State)

/-- Outside the unusable region no bus write is a fault, whatever the policy. -/
theorem busWrite_of_regionOf {r : Region} (h : regionOf a = r) (hr : r ≠ .unusable) :
    busWrite a v s = .next (busEffect a v s) :=
  busWrite_of_mayStore v (.inr fun ha => hr (h.symm.trans ((regionOf_unusable_iff a).2 ha)))

theorem busEffect_rom (h : regionOf a = .rom) : busEffect a v s = s := by
  simp only [busEffect, h]

theorem busEffect_workRam (h : regionOf a = .workRam) : busEffect a v s = (s.poke a v).poke (a + 0x2000) v := by
  simp only [busEffect, h]

theorem busEffect_echoRam (h : regionOf a = .echoRam) : busEffect a v s = (s.poke a v).poke (a - 0x2000) v := by
  simp only [busEffect, h]

theorem busEffect_div (h : regionOf a = .div) : busEffect a v s = (s.poke a 0).setCtr 0 := by
  simp only [busEffect, h]

theorem busEffect_plain (h : regionOf a = .plain) : busEffect a v s = s.poke a v := by
  simp only [busEffect, h]

end RegionOfTheWrite

/-- The same byte at two addresses, and every other byte as it was. -/
theorem peek_poke_poke (s : State) (a b : Word) (v : Byte) (x : Word) :
    ((s.poke a v).poke b v).peek x = if x = a ∨ x = b then v else s.peek x := by
  rw [State.peek_poke, State.peek_poke]
  by_cases hb : x = b
  · simp only [hb, or_true, if_true]
  · simp only [hb, or_false, if_false]

/-- The two writes of a mirrored store, as one change of memory: no other state changes. -/
theorem poke_poke_stores (s : State) (a b : Word) (v : Byte) :
    ∃ m : Memory, (Host.Outcome.next ((s.poke a v).poke b v) : Result) = .next { s with mem := m } ∧
      ∀ x : Word, m.read x.toNat = if x = a ∨ x = b then v else s.peek x :=
  ⟨_, rfl, peek_poke_poke s a b v⟩

/-- A bus write outside work RAM and echo RAM touches no byte of either. -/
theorem touches_ram_eq_false {a x : Word} (hwork : regionOf a ≠ .workRam) (hecho : regionOf a ≠ .echoRam)
    (hx : regionOf x = .workRam ∨ regionOf x = .echoRam) : touches a x = false := by
  have hne : x ≠ a := by
    rintro rfl
    exact hx.elim hwork hecho
  have hoam : ¬ (0xFE00 ≤ x.toNat ∧ x.toNat ≤ 0xFE9F) := by
    rw [regionOf_workRam_iff, regionOf_echoRam_iff] at hx
    omega
  unfold touches
  split
  case h_2 h => exact absurd h hwork
  case h_3 h => exact absurd h hecho
  all_goals simp [hne, hoam]

/-- Every bus write keeps work RAM and echo RAM equal (R45, R46): in the two ranges it stores the same byte at an address
and at its alias, and from elsewhere it reaches neither. -/
theorem busEffect_echoed (a : Word) (v : Byte) {s : State} (hs : s.echoed) : (busEffect a v s).echoed := by
  intro x hx1 hx2
  have hsx : s.peek x = s.peek (x + 0x2000) := hs x hx1 hx2
  by_cases hwork : regionOf a = .workRam
  · have ha := (regionOf_workRam_iff a).1 hwork
    have halias : (x = a ∨ x = a + 0x2000) ↔ (x + 0x2000 = a ∨ x + 0x2000 = a + 0x2000) := by bv_omega
    simp only [busEffect_workRam v s hwork, peek_poke_poke, halias, hsx]
  by_cases hecho : regionOf a = .echoRam
  · have ha := (regionOf_echoRam_iff a).1 hecho
    have halias : (x = a ∨ x = a - 0x2000) ↔ (x + 0x2000 = a ∨ x + 0x2000 = a - 0x2000) := by bv_omega
    simp only [busEffect_echoRam v s hecho, peek_poke_poke, halias, hsx]
  have hx : regionOf x = .workRam := (regionOf_workRam_iff x).2 ⟨hx1, hx2⟩
  have hy : regionOf (x + 0x2000) = .echoRam := (regionOf_echoRam_iff _).2 (by bv_omega)
  rw [busEffect_peek_other a v s (touches_ram_eq_false hwork hecho (.inl hx)),
    busEffect_peek_other a v s (touches_ram_eq_false hwork hecho (.inr hy)), hsx]

/-- Settles O57: the region of the address decides the effect, and the effect keeps the echo. -/
theorem busWritePolicy : Obligations.BusWritePolicy := by
  intro a v s
  refine ⟨fun h => ?rom, fun h1 h2 => ?workRam, fun h1 h2 => ?echoRam, fun h => ?div, fun h1 h2 h3 h4 h5 => ?plain,
    ?echoed⟩
  case rom =>
    have hr := regionOf_rom h
    rw [busWrite_of_regionOf v s hr (by decide), busEffect_rom v s hr]
  case workRam =>
    have hr := (regionOf_workRam_iff a).2 ⟨h1, h2⟩
    rw [busWrite_of_regionOf v s hr (by decide), busEffect_workRam v s hr]
    exact poke_poke_stores s a (a + 0x2000) v
  case echoRam =>
    have hr := (regionOf_echoRam_iff a).2 ⟨h1, h2⟩
    rw [busWrite_of_regionOf v s hr (by decide), busEffect_echoRam v s hr]
    exact poke_poke_stores s a (a - 0x2000) v
  case div =>
    have hr := (regionOf_div_iff a).2 h
    rw [busWrite_of_regionOf v s hr (by decide), busEffect_div v s hr]
    exact ⟨_, rfl, fun x => h ▸ State.peek_poke s a x 0⟩
  case plain =>
    have hr := regionOf_plain h1 h2 h3 h4 h5
    rw [busWrite_of_regionOf v s hr (by decide), busEffect_plain v s hr]
    exact ⟨_, rfl, fun x => State.peek_poke s a x v⟩
  case echoed =>
    intro hs t ht
    obtain rfl := busWrite_next ht
    exact busEffect_echoed a v hs

end Sys2Proof.Machine

/-! PROOFS. The byte an instruction is decoded from is the first byte it is encoded to, and which first bytes are the
illegal opcodes (30_encoding R75, R79). -/

namespace Sys2Proof

/-- Functions of a byte are equal when their tables are, row by row: the row is the high digit of the byte, the column
the low one. -/
theorem eq_of_byteTable_eq {α : Type} {f g : Byte → α}
    (h : ∀ r : Fin 16, (List.range 16).map (fun c => f (BitVec.ofNat 8 (16 * r + c))) =
      (List.range 16).map fun c => g (BitVec.ofNat 8 (16 * r + c)))
    (b : Byte) : f b = g b := by
  have hrow : b.toNat / 16 < 16 := by omega
  have hcol : b.toNat % 16 ∈ List.range 16 := List.mem_range.2 (by omega)
  have hb : BitVec.ofNat 8 (16 * (b.toNat / 16) + b.toNat % 16) = b := by
    rw [Nat.div_add_mod, BitVec.ofNat_toNat, BitVec.setWidth_eq]
  have := List.map_inj_left.1 (h ⟨b.toNat / 16, hrow⟩) (b.toNat % 16) hcol
  rwa [hb] at this

/-- The first byte that the encoder gives an instruction of this cell, its operand byte or word being `v` or `w`; for the
cell of the prefix, the prefix. -/
def Cell.firstByte (v : Byte) (w : Word) : Cell → Option Byte
  | .op i => (encode i).head?
  | .withByte f => (encode (f v)).head?
  | .withWord f => (encode (f w)).head?
  | .second => some 0xCB

/-- Each cell of the grid encodes to the opcode byte that selects it (R77), whatever its operand. -/
theorem opcodeCell_firstByte (v : Byte) (w : Word) (b : Byte) : (opcodeCell b).firstByte v w = some b := by
  refine eq_of_byteTable_eq (f := fun b => (opcodeCell b).firstByte v w) (fun r => ?_) b
  fin_cases r <;> rfl

/-- The second table encodes to the prefix and the sub-opcode that selects it (R78). -/
theorem encode_cbInstr (sub : Byte) : encode (cbInstr sub) = [0xCB, sub] := by
  refine eq_of_byteTable_eq (f := fun sub => encode (cbInstr sub)) (g := fun sub => [0xCB, sub]) (fun r => ?_) sub
  fin_cases r <;> rfl

/-- What is decoded from three bytes encodes to bytes that begin with the first of them. -/
theorem encode_decode3_head? (b0 b1 b2 : Byte) : (encode (decode3 b0 b1 b2)).head? = some b0 := by
  rw [← opcodeCell_firstByte b1 (wordOf b2 b1) b0]
  unfold decode3
  cases opcodeCell b0 with
  | op | withByte | withWord => rfl
  | second => rw [encode_cbInstr]; rfl

theorem encode_illegalRow (k : IllegalOp) : encode (.illegalRow k) = [k.opcode] := by cases k <;> rfl

theorem length_illegalRow (k : IllegalOp) : (Instr.illegalRow k).length = 1 := by cases k <;> rfl

theorem decode3_opcode (k : IllegalOp) (b1 b2 : Byte) : decode3 k.opcode b1 b2 = .illegalRow k := by cases k <;> rfl

/-- An illegal row is decoded from its own opcode byte and from no other (R79). -/
theorem decode3_eq_illegalRow_iff (k : IllegalOp) (b0 b1 b2 : Byte) :
    decode3 b0 b1 b2 = .illegalRow k ↔ k.opcode = b0 := by
  constructor
  · intro h
    have hhead := encode_decode3_head? b0 b1 b2
    rw [h, encode_illegalRow] at hhead
    exact Option.some.inj hhead
  · rintro rfl
    exact decode3_opcode k b1 b2

/-- The opcodes of the illegal rows are the eleven values listed (R79). -/
theorem exists_opcode_eq_iff (b : Byte) : (∃ k : IllegalOp, k.opcode = b) ↔
    b ∈ ([0xD3, 0xDB, 0xDD, 0xE3, 0xE4, 0xEB, 0xEC, 0xED, 0xF4, 0xFC, 0xFD] : List Byte) := by
  constructor
  · rintro ⟨k, rfl⟩
    cases k <;> decide
  · intro h
    obtain ⟨k, -, hk⟩ := List.mem_map.1
      (show b ∈ [IllegalOp.xD3, .xDB, .xDD, .xE3, .xE4, .xEB, .xEC, .xED, .xF4, .xFC, .xFD].map IllegalOp.opcode from h)
    exact ⟨k, hk⟩

/-- Settles O6: an illegal row is decoded exactly from its own opcode, and it is one byte long. -/
theorem illegalOpcodesAreTheEleven : Obligations.IllegalOpcodesAreTheEleven := by
  intro b0 b1 b2
  simp only [decode3_eq_illegalRow_iff, ← exists_opcode_eq_iff, true_and]
  rintro ⟨k, rfl⟩
  rw [decode3_opcode, length_illegalRow]

/-- Settles O4: each byte listed by the source is looked up in the tables; an illegal one is the opcode of its row. -/
theorem sourceOpcodesDecode : Obligations.SourceOpcodesDecode := by
  refine ⟨fun _ _ => rfl, fun _ => rfl, fun _ => rfl, fun _ _ => rfl, fun _ _ => rfl, fun b0 b b' h => ?illegal⟩
  case illegal =>
    obtain ⟨k, rfl⟩ := (exists_opcode_eq_iff b0).2 h
    exact ⟨k, rfl, decode3_opcode k b b'⟩

end Sys2Proof

/-! PROOFS. The rotate and shift primitives as arithmetic on the byte (44_rotate_shift_bit R200 to R207). -/

namespace Sys2Proof.Machine

/-- A number below `2 ^ k` joined under a byte shifted left by `k` is added to it: no bit is in both. -/
theorem shiftLeft_or_ofNat (x : Byte) {k b : Nat} (hb : b < 2 ^ k) :
    x <<< k ||| BitVec.ofNat 8 b = BitVec.ofNat 8 (2 ^ k * x.toNat + b) := by
  have hshift : x <<< k = BitVec.ofNat 8 (2 ^ k * x.toNat) := by
    rw [Nat.mul_comm, ← Nat.shiftLeft_eq]
    rfl
  rw [Nat.two_pow_add_eq_or_of_lt hb, BitVec.ofNat_or, hshift]

theorem ushiftRight_eq_ofNat (v : Byte) (k : Nat) : v >>> k = BitVec.ofNat 8 (v.toNat / 2 ^ k) := by
  rw [← Nat.shiftRight_eq_div_pow, ← BitVec.toNat_ushiftRight, BitVec.ofNat_toNat, BitVec.setWidth_eq]

theorem bitByte_eq_ofNat (c : Bool) : bitByte c = BitVec.ofNat 8 c.toNat := by cases c <;> rfl

theorem toNat_bitByte (c : Bool) : (bitByte c).toNat = c.toNat := by cases c <;> rfl

theorem toNat_getLsbD (v : Byte) (i : Nat) : (v.getLsbD i).toNat = v.toNat / 2 ^ i % 2 := Nat.toNat_testBit v.toNat i

theorem getLsbD_seven (v : Byte) : v.getLsbD 7 = decide (v.toNat ≥ 128) := BitVec.msb_eq_decide v

theorem getLsbD_zero (v : Byte) : v.getLsbD 0 = decide (v.toNat % 2 = 1) := Nat.testBit_zero v.toNat

theorem rl_eq (v : Byte) (cin : Bool) :
    rl v cin = (BitVec.ofNat 8 (2 * v.toNat + cin.toNat), decide (v.toNat ≥ 128)) := by
  have hjoin : v <<< 1 ||| BitVec.ofNat 8 cin.toNat = BitVec.ofNat 8 (2 * v.toNat + cin.toNat) :=
    shiftLeft_or_ofNat v (k := 1) cin.toNat_lt
  rw [rl, getLsbD_seven, bitByte_eq_ofNat, hjoin]

theorem rr_eq (v : Byte) (cin : Bool) :
    rr v cin = (BitVec.ofNat 8 (v.toNat / 2 + 128 * cin.toNat), decide (v.toNat % 2 = 1)) := by
  have hjoin : bitByte cin <<< 7 ||| BitVec.ofNat 8 (v.toNat / 2) =
      BitVec.ofNat 8 (128 * (bitByte cin).toNat + v.toNat / 2) :=
    shiftLeft_or_ofNat (bitByte cin) (k := 7) (by omega)
  rw [rr, getLsbD_zero, ushiftRight_eq_ofNat, BitVec.or_comm, Nat.pow_one, hjoin, toNat_bitByte, Nat.add_comm]

/-! The other rotates and shifts are `rl` and `rr` with the carry-in chosen. -/

theorem rlc_eq_rl (v : Byte) : rlc v = rl v (v.getLsbD 7) := rfl

theorem rrc_eq_rr (v : Byte) : rrc v = rr v (v.getLsbD 0) := rfl

theorem sla_eq_rl (v : Byte) : sla v = rl v false := by simp [sla, rl, bitByte]

theorem srl_eq_rr (v : Byte) : srl v = rr v false := by simp [srl, rr, bitByte]

theorem sra_eq_rr (v : Byte) : sra v = rr v (v.getLsbD 7) := by
  have hkept : v &&& (0x80 : Byte) = bitByte (v.getLsbD 7) <<< 7 := by
    refine (BitVec.and_twoPow v 7).trans ?_
    cases v.getLsbD 7 <;> rfl
  rw [sra, rr, hkept]

theorem swap_fst_eq (v : Byte) : (swap v).1 = BitVec.ofNat 8 (16 * (v.toNat % 16) + v.toNat / 16) := by
  have hlow : (v &&& (0x0F : Byte)).toNat = v.toNat % 16 := Nat.and_two_pow_sub_one_eq_mod v.toNat 4
  rw [swap, ushiftRight_eq_ofNat, ← hlow]
  exact shiftLeft_or_ofNat (v &&& (0x0F : Byte)) (k := 4) (by omega)

/-- Settles O44: each rotate or shift is `rl` or `rr` with an end bit of the byte or 0 as its carry-in, and swap joins the
two nibbles. -/
theorem rotateAndShiftPrimitives : Obligations.RotateAndShiftPrimitives := by
  intro v cin n
  have hseven : (v.getLsbD 7).toNat = n / 128 := by
    rw [toNat_getLsbD]
    omega
  have hzero : (v.getLsbD 0).toNat = n % 2 := by rw [toNat_getLsbD, Nat.pow_zero, Nat.div_one]
  refine ⟨?rlc, ?rrc, rl_eq v cin, rr_eq v cin, ?sla, ?sra, ?srl, swap_fst_eq v⟩
  case rlc => rw [rotResult, rlc_eq_rl, rl_eq, hseven]
  case rrc => rw [rotResult, rrc_eq_rr, rr_eq, hzero]
  case sla => exact (sla_eq_rl v).trans (rl_eq v false)
  case sra => rw [rotResult, sra_eq_rr, rr_eq, hseven]
  case srl => exact (srl_eq_rr v).trans (rr_eq v false)

end Sys2Proof.Machine

/-! PROOFS. The decoder and the encoder undo each other, and the first byte fixes the length (30_encoding R70 to R80). -/

namespace Sys2Proof

/-- The instruction of a cell whose operand byte is `v` or whose operand word is `w`. -/
def Cell.instr (v : Byte) (w : Word) : Cell → Instr
  | .op i => i
  | .withByte f => f v
  | .withWord f => f w
  | .second => cbInstr v

/-- The bytes of the instruction of a cell that the opcode `b` selects. -/
def Cell.word (b v : Byte) (w : Word) : Cell → List Byte
  | .op _ => [b]
  | .withByte _ => [b, v]
  | .withWord _ => [b, loByte w, hiByte w]
  | .second => [b, v]

/-- A function of the instruction of a cell, its value `a` on the second table given, so that it computes on the
grid. -/
def Cell.apply {α : Type} (f : Instr → α) (v : Byte) (w : Word) (a : α) : Cell → α
  | .op i => f i
  | .withByte g => f (g v)
  | .withWord g => f (g w)
  | .second => a

theorem Cell.apply_instr {α : Type} (f : Instr → α) (v : Byte) (w : Word) (c : Cell) :
    f (c.instr v w) = c.apply f v w (f (cbInstr v)) := by
  cases c <;> rfl

theorem decode3_eq_instr (b0 b1 b2 : Byte) : decode3 b0 b1 b2 = (opcodeCell b0).instr b1 (wordOf b2 b1) := by
  unfold decode3
  cases opcodeCell b0 <;> rfl

/-- The instruction of a cell is encoded to the opcode that selects the cell, then its operand (R71, R77). -/
theorem encode_instr (b v : Byte) (w : Word) : encode ((opcodeCell b).instr v w) = (opcodeCell b).word b v w := by
  rw [Cell.apply_instr encode, encode_cbInstr]
  refine eq_of_byteTable_eq (f := fun b => (opcodeCell b).apply encode v w [0xCB, v])
    (g := fun b => (opcodeCell b).word b v w) (fun r => ?_) b
  fin_cases r <;> rfl

theorem wellFormed_cbInstr (sub : Byte) : (cbInstr sub).wellFormed = true := by
  refine eq_of_byteTable_eq (f := fun sub => (cbInstr sub).wellFormed) (g := fun _ => true) (fun r => ?_) sub
  fin_cases r <;> rfl

/-- No cell holds the PREFIX row (R255). -/
theorem wellFormed_instr (b v : Byte) (w : Word) : ((opcodeCell b).instr v w).wellFormed = true := by
  rw [Cell.apply_instr Instr.wellFormed, wellFormed_cbInstr]
  refine eq_of_byteTable_eq (f := fun b => (opcodeCell b).apply Instr.wellFormed v w true) (g := fun _ => true)
    (fun r => ?_) b
  fin_cases r <;> rfl

/-- The encoder writes as many bytes as the format of the row has (R71). -/
theorem length_encode (i : Instr) : (encode i).length = i.length := by
  cases i <;> rfl

/-- The first byte of an encoding selects the cell of its instruction (R77, R78). -/
theorem instr_of_encode {i : Instr} {b : Byte} {operand : List Byte} (h : i.wellFormed = true)
    (hi : encode i = b :: operand) : ∃ w, (opcodeCell b).instr (operand.headD 0) w = i := by
  cases i
  case prefixCb => cases h
  case ld_BC_d16 w | ld_ma16_SP w | ld_DE_d16 w | ld_HL_d16 w | ld_SP_d16 w | jp_NZ_a16 w | jp_a16 w | call_NZ_a16 w |
      jp_Z_a16 w | call_Z_a16 w | call_a16 w | jp_NC_a16 w | call_NC_a16 w | jp_C_a16 w | call_C_a16 w | ld_ma16_A w |
      ld_A_ma16 w =>
    cases hi
    exact ⟨w, rfl⟩
  all_goals
    cases hi
    exact ⟨0, rfl⟩

theorem length_pos (i : Instr) : 0 < i.length := by
  unfold Instr.length
  cases i.format <;> decide

/-- The decoder reads the bytes of a cell's instruction as that instruction, whatever follows them (R80). -/
theorem decode_word (b v : Byte) (w : Word) (rest : List Byte) :
    decode ((opcodeCell b).word b v w ++ rest) = .ok ((opcodeCell b).instr v w, rest) := by
  cases hc : opcodeCell b <;> simp [Cell.word, Cell.instr, decode, hc]

/-- Settles O1: a well-formed instruction is that of a cell, and the decoder reads the bytes of a cell. -/
theorem decodeEncodeRoundTrip : Obligations.DecodeEncodeRoundTrip := by
  intro i rest h
  obtain ⟨b, operand, hi⟩ := List.exists_cons_of_length_pos ((length_pos i).trans_eq (length_encode i).symm)
  obtain ⟨w, rfl⟩ := instr_of_encode h hi
  rw [encode_instr, decode_word]

theorem length_instr (b v : Byte) (w : Word) :
    ((opcodeCell b).instr v w).length = ((opcodeCell b).word b v w).length := by
  rw [← length_encode, encode_instr]

/-- The bytes of the instruction read from three bytes are their beginning. -/
theorem word_eq_take (b0 b1 b2 : Byte) (c : Cell) :
    c.word b0 b1 (wordOf b2 b1) = [b0, b1, b2].take (c.word b0 b1 (wordOf b2 b1)).length := by
  cases c <;> simp [Cell.word]

/-- Settles O2: three bytes are the bytes of their cell's instruction and then the rest. -/
theorem decodedBytesReencode : Obligations.DecodedBytesReencode := by
  intro b0 b1 b2
  rw [decode3_eq_instr, length_instr, encode_instr, ← word_eq_take]
  refine ⟨wellFormed_instr b0 b1 _, ?_, rfl⟩
  have hbytes := List.take_append_drop ((opcodeCell b0).word b0 b1 (wordOf b2 b1)).length [b0, b1, b2]
  rw [← word_eq_take] at hbytes
  rw [← decode_word, hbytes]

/-- Settles O3: the number of operand bytes is in the cell that the first byte selects. -/
theorem firstByteFixesLength : Obligations.FirstByteFixesLength := by
  intro b0 b1 b2
  rw [decode3_eq_instr, length_instr]
  revert b0
  refine eq_of_byteTable_eq fun r => ?_
  fin_cases r <;> rfl

/-- Settles O5: each word is looked up in the tables. -/
theorem writtenWordsDecode : Obligations.WrittenWordsDecode :=
  ⟨rfl, rfl, rfl, rfl, rfl, rfl, rfl, rfl, rfl, rfl, rfl, rfl, rfl⟩

/-- The row of the second table at the fields y, z and x of its sub-opcode (R78). -/
def cbRow (y z : Nat) : Nat → Instr
  | 0 => .rotLoc (RotOp.ofIndex y) (Loc8.ofIndex z)
  | 1 => .bitLoc (BitIdx.ofIndex y) (Loc8.ofIndex z)
  | 2 => .resLoc (BitIdx.ofIndex y) (Loc8.ofIndex z)
  | _ => .setLoc (BitIdx.ofIndex y) (Loc8.ofIndex z)

theorem cbInstr_eq_cbRow (sub : Byte) :
    cbInstr sub = cbRow (sub.toNat / 8 % 8) (sub.toNat % 8) (sub.toNat / 64) := rfl

/-- A sub-opcode put together from its fields selects the row at them. -/
theorem cbInstr_ofNat {n x y z : Nat} (hn : n = 64 * x + 8 * y + z) (hx : x < 4) (hy : y < 8) (hz : z < 8) :
    cbInstr (BitVec.ofNat 8 n) = cbRow y z x := by
  have hfield : n % 256 = n ∧ n / 8 % 8 = y ∧ n % 8 = z ∧ n / 64 = x := by omega
  obtain ⟨hbyte, hfy, hfz, hfx⟩ := hfield
  rw [cbInstr_eq_cbRow, BitVec.toNat_ofNat, hbyte, hfy, hfz, hfx]

/-- Settles O7: the four ranges are the values of the field x, and the lists are the values of the fields y and z. -/
theorem cbSubOpcodeRanges : Obligations.CbSubOpcodeRanges := by
  intro y z b rot bit x
  have hrot : RotOp.ofIndex y = rot := by fin_cases y <;> rfl
  have hbit : BitIdx.ofIndex y = bit := by fin_cases y <;> rfl
  have hloc : Loc8.ofIndex z = x := by fin_cases z <;> rfl
  rw [← hrot, ← hbit, ← hloc]
  exact ⟨cbInstr_ofNat (x := 0) (by omega) (by omega) y.isLt z.isLt, cbInstr_ofNat (x := 1) (by omega) (by omega) y.isLt z.isLt,
    cbInstr_ofNat (x := 2) (by omega) (by omega) y.isLt z.isLt, cbInstr_ofNat (x := 3) (by omega) (by omega) y.isLt z.isLt⟩

end Sys2Proof

/-! PROOFS. What running one instruction leaves unchanged in the registers, SP, the flags, `ime` and the latch: one case
analysis over the families of instructions (10_state R12, R16; 60_exceptions R261). -/

namespace Sys2Proof.Machine

/-- `t` is `s` but for the registers `rs`, the flags `fs`, SP where `sp` is set, and what is no register. -/
structure Keeps (rs : List Reg8) (sp : Bool) (fs : List FlagName) (s t : State) : Prop where
  reg : ∀ r, r ∉ rs → t.reg r = s.reg r
  sp : sp = false → t.sp = s.sp
  flags : ∀ f, f ∉ fs → t.flags.get f = s.flags.get f
  ime : t.ime = s.ime
  halted : t.halted = s.halted

/-- The flags of a result of which the table gives the instruction all four. -/
theorem keeps_all_flags {f g : Flags} (x : FlagName) (hx : x ∉ [FlagName.Z, .N, .H, .C]) : f.get x = g.get x := by
  cases x <;> simp at hx

namespace Keeps

variable {rs : List Reg8} {sp : Bool} {fs : List FlagName} {s t u : State}

theorem refl (s : State) : Keeps rs sp fs s s := ⟨fun _ _ => rfl, fun _ => rfl, fun _ _ => rfl, rfl, rfl⟩

theorem trans (h : Keeps rs sp fs s t) (h' : Keeps rs sp fs t u) : Keeps rs sp fs s u :=
  ⟨fun r hr => (h'.reg r hr).trans (h.reg r hr), fun hp => (h'.sp hp).trans (h.sp hp),
    fun f hf => (h'.flags f hf).trans (h.flags f hf), h'.ime.trans h.ime, h'.halted.trans h.halted⟩

theorem advance (h : Keeps rs sp fs s t) (n : Word) : Keeps rs sp fs s (t.advance n) :=
  h.trans ⟨fun r _ => State.reg_advance t n r, fun _ => rfl, fun _ _ => rfl, rfl, rfl⟩

theorem setPc (h : Keeps rs sp fs s t) (v : Word) : Keeps rs sp fs s (t.setPc v) :=
  h.trans ⟨fun r _ => State.reg_setPc t v r, fun _ => rfl, fun _ _ => rfl, rfl, rfl⟩

theorem setReg (h : Keeps rs sp fs s t) {d : Reg8} (hd : d ∈ rs) (v : Byte) : Keeps rs sp fs s (t.setReg d v) :=
  h.trans ⟨fun r hr => State.reg_setReg_other t (ne_of_mem_of_not_mem hd hr).symm v, fun _ => State.setReg_sp t d v,
    fun f _ => by rw [State.setReg_flags], State.setReg_ime t d v, State.setReg_halted t d v⟩

theorem setFlags (h : Keeps rs sp fs s t) {f : Flags} (hf : ∀ x, x ∉ fs → f.get x = t.flags.get x) :
    Keeps rs sp fs s (t.setFlags f) :=
  h.trans ⟨fun r _ => State.reg_setFlags t f r, fun _ => rfl, hf, rfl, rfl⟩

theorem setSp (h : Keeps rs true fs s t) (v : Word) : Keeps rs true fs s (t.setSp v) :=
  h.trans ⟨fun r _ => State.reg_setSp t v r, nofun, fun _ _ => rfl, rfl, rfl⟩

theorem busEffect (h : Keeps rs sp fs s t) (a : Word) (v : Byte) : Keeps rs sp fs s (busEffect a v t) :=
  h.trans ⟨fun r _ => busEffect_reg a v t r, fun _ => busEffect_sp a v t, fun f _ => by rw [busEffect_flags],
    busEffect_ime a v t, busEffect_halted a v t⟩

theorem setBc (h : Keeps rs sp fs s t) (hB : Reg8.B ∈ rs) (hC : Reg8.C ∈ rs) (v : Word) : Keeps rs sp fs s (t.setBc v) :=
  (h.setReg hB (hiByte v)).setReg hC (loByte v)

theorem setDe (h : Keeps rs sp fs s t) (hD : Reg8.D ∈ rs) (hE : Reg8.E ∈ rs) (v : Word) : Keeps rs sp fs s (t.setDe v) :=
  (h.setReg hD (hiByte v)).setReg hE (loByte v)

theorem setHl (h : Keeps rs sp fs s t) (hH : Reg8.H ∈ rs) (hL : Reg8.L ∈ rs) (v : Word) : Keeps rs sp fs s (t.setHl v) :=
  (h.setReg hH (hiByte v)).setReg hL (loByte v)

theorem setAf (h : Keeps rs sp [.Z, .N, .H, .C] s t) (hA : Reg8.A ∈ rs) (v : Word) :
    Keeps rs sp [.Z, .N, .H, .C] s (t.setAf v) :=
  (h.setReg hA (hiByte v)).setFlags (f := Flags.ofByte (loByte v)) keeps_all_flags

theorem setPair (p : Pair) (v : Word) : Keeps (pairRegisters p) (decide (p = .SP)) [] s (s.setPair p v) := by
  cases p with
  | BC => exact (refl s).setBc (by decide) (by decide) v
  | DE => exact (refl s).setDe (by decide) (by decide) v
  | HL => exact (refl s).setHl (by decide) (by decide) v
  | SP => exact (refl s).setSp v

end Keeps

/-- The flags of a result that keeps C. -/
theorem keeps_carry {f g : Flags} (hc : f.c = g.c) (x : FlagName) (hx : x ∉ [FlagName.Z, .N, .H]) :
    f.get x = g.get x := by
  cases x with
  | C => exact hc
  | Z | N | H => simp at hx

section Shapes

variable {s t : State}

theorem loadReg_keeps {d : Reg8} {v : Byte} {len : Word} (h : loadReg d v len s = .next t) :
    Keeps [d] false [] s t := by
  cases h
  exact ((Keeps.refl s).setReg (by simp) v).advance len

theorem storeByte_keeps {a : Word} {v : Byte} {len : Word} (h : storeByte a v len s = .next t) :
    Keeps [] false [] s t := by
  obtain ⟨u, hu, h⟩ := andThen_eq_next.1 h
  cases busWrite_next hu
  cases h
  exact ((Keeps.refl s).busEffect a v).advance len

theorem loadAStepHL_keeps {x : Word} (h : loadAStepHL x s = .next t) : Keeps [.A, .H, .L] false [] s t := by
  cases h
  exact (((Keeps.refl s).setReg (by decide) _).setHl (by decide) (by decide) _).advance 1

theorem storeAStepHL_keeps {x : Word} (h : storeAStepHL x s = .next t) : Keeps [.H, .L] false [] s t := by
  obtain ⟨u, hu, h⟩ := andThen_eq_next.1 h
  cases busWrite_next hu
  cases h
  exact (((Keeps.refl s).busEffect _ _).setHl (by decide) (by decide) _).advance 1

theorem accResult_keeps {rf : Byte × Flags} {len : Word} {fs : List FlagName}
    (hf : ∀ x, x ∉ fs → rf.2.get x = s.flags.get x) (h : accResult rf len s = .next t) : Keeps [.A] false fs s t := by
  cases h
  exact (((Keeps.refl s).setReg (by decide) _).setFlags hf).advance len

theorem flagsOnly_keeps {f : Flags} {len : Word} {fs : List FlagName} (hf : ∀ x, x ∉ fs → f.get x = s.flags.get x)
    (h : flagsOnly f len s = .next t) : Keeps [] false fs s t := by
  cases h
  exact ((Keeps.refl s).setFlags hf).advance len

theorem bitOn_keeps {b : BitIdx} {x : Loc8} (h : bitOn b x s = .next t) : Keeps [] false [.Z, .N, .H] s t :=
  flagsOnly_keeps (keeps_carry (by rfl)) h

theorem aluOn_keeps {op : AluOp} {x : Byte} {len : Word} (h : aluOn op x len s = .next t) :
    Keeps (aluRegisters op) false [.Z, .N, .H, .C] s t := by
  cases op with
  | cp => exact flagsOnly_keeps keeps_all_flags h
  | add | adc | sub | sbc | and | xor | or => exact accResult_keeps keeps_all_flags h

theorem writeLoc_keeps {x : Loc8} {v : Byte} (fs : List FlagName) (h : writeLoc x v s = .next t) :
    Keeps (locRegisters x) false fs s t := by
  cases x with
  | reg r =>
    cases h
    exact (Keeps.refl s).setReg (by simp [locRegisters]) v
  | atHL =>
    cases busWrite_next h
    exact (Keeps.refl s).busEffect _ v

theorem modifyLoc_keeps {x : Loc8} {rf : Byte × Flags} {len : Word} {fs : List FlagName}
    (hf : ∀ x, x ∉ fs → rf.2.get x = s.flags.get x) (h : modifyLoc x rf len s = .next t) :
    Keeps (locRegisters x) false fs s t := by
  obtain ⟨u, hu, h⟩ := andThen_eq_next.1 h
  have hk := writeLoc_keeps fs hu
  cases h
  exact (hk.setFlags fun y hy => (hf y hy).trans (hk.flags y hy).symm).advance len

theorem resOn_keeps {b : BitIdx} {x : Loc8} (h : resOn b x s = .next t) : Keeps (locRegisters x) false [] s t := by
  obtain ⟨u, hu, h⟩ := andThen_eq_next.1 h
  cases h
  exact (writeLoc_keeps [] hu).advance 2

theorem setOn_keeps {b : BitIdx} {x : Loc8} (h : setOn b x s = .next t) : Keeps (locRegisters x) false [] s t := by
  obtain ⟨u, hu, h⟩ := andThen_eq_next.1 h
  cases h
  exact (writeLoc_keeps [] hu).advance 2

theorem loadPair_keeps {p : Pair} {v len : Word} (h : loadPair p v len s = .next t) :
    Keeps (pairRegisters p) (decide (p = .SP)) [] s t := by
  cases h
  exact (Keeps.setPair p v).advance len

theorem addHL_keeps {p : Pair} (h : addHL p s = .next t) : Keeps [.H, .L] false [.N, .H, .C] s t := by
  cases h
  refine (((Keeps.refl s).setHl (by decide) (by decide) _).setFlags fun x hx => ?_).advance 1
  cases x with
  | Z => rfl
  | N | H | C => simp at hx

theorem push16_keeps {v : Word} (h : push16 v s = .next t) : Keeps [] true [] s t := by
  cases push16_next h
  exact (((Keeps.refl s).busEffect _ _).busEffect _ _).setSp _

theorem pushPair_keeps {p : StackPair} (h : pushPair p s = .next t) : Keeps [] true [] s t := by
  obtain ⟨u, hu, h⟩ := andThen_eq_next.1 h
  cases h
  exact (push16_keeps hu).advance 1

theorem popPair_keeps {p : StackPair} (h : popPair p s = .next t) :
    Keeps (stackPairRegisters p) true (if p = .AF then [.Z, .N, .H, .C] else []) s t := by
  cases h
  cases p with
  | BC => exact (((Keeps.refl s).setSp _).setBc (by decide) (by decide) _).advance 1
  | DE => exact (((Keeps.refl s).setSp _).setDe (by decide) (by decide) _).advance 1
  | HL => exact (((Keeps.refl s).setSp _).setHl (by decide) (by decide) _).advance 1
  | AF =>
    have hA : Reg8.A ∈ stackPairRegisters .AF := by decide
    rw [if_pos rfl]
    exact (((Keeps.refl s).setSp _).setAf hA _).advance 1

theorem jumpIf_keeps {c : Bool} {target len : Word} (h : jumpIf c target len s = .next t) : Keeps [] false [] s t := by
  cases h
  cases c with
  | true => exact (Keeps.refl s).setPc target
  | false => exact (Keeps.refl s).advance len

theorem callTo_keeps {target len : Word} (h : callTo target len s = .next t) : Keeps [] true [] s t := by
  obtain ⟨u, hu, h⟩ := andThen_eq_next.1 h
  cases h
  exact (push16_keeps hu).setPc target

theorem callIf_keeps {c : Bool} {target : Word} (h : callIf c target s = .next t) : Keeps [] c [] s t := by
  cases c with
  | true => exact callTo_keeps h
  | false =>
    cases h
    exact (Keeps.refl s).advance 3

theorem returnFrom_keeps (h : returnFrom s = .next t) : Keeps [] true [] s t := by
  cases h
  exact ((Keeps.refl s).setSp _).setPc _

theorem returnIf_keeps {c : Bool} (h : returnIf c s = .next t) : Keeps [] c [] s t := by
  cases c with
  | true => exact returnFrom_keeps h
  | false =>
    cases h
    exact (Keeps.refl s).advance 1

theorem illegalOn_keeps {k : IllegalOp} (h : illegalOn k s = .next t) : Keeps [] false [] s t := by
  obtain ⟨-, rfl⟩ := illegalOn_next h
  exact Keeps.advance ⟨fun r _ => State.reg_emit s _ r, fun _ => rfl, fun _ _ => rfl, rfl, rfl⟩ 1

theorem exec_stop_keeps {pad : Byte} (h : exec_stop pad s = .next t) : Keeps [] false [] s t := by
  unfold exec_stop at h
  split at h
  · cases h
    exact (Keeps.refl s).advance 2
  · cases h

theorem storeSp_keeps {a16 : Word} (h : andThen (busWrite16 a16 s.sp s) (fun t => .next (t.advance 3)) = .next t) :
    Keeps [] false [] s t := by
  obtain ⟨u, hu, h⟩ := andThen_eq_next.1 h
  obtain ⟨v, hv, hu⟩ := andThen_eq_next.1 hu
  cases busWrite_next hv
  cases busWrite_next hu
  cases h
  exact (((Keeps.refl s).busEffect _ _).busEffect _ _).advance 3

end Shapes

/-- What running `i` from `s` to `t` may have changed outside memory, by the tables of Machine/Effects.lean (10_state R12,
R16) and by the transitions of `ime` and of the latch (60_exceptions R261, 46_system R251). -/
structure ExecFrame (i : Instr) (s t : State) : Prop where
  reg : ∀ r, r ∉ i.registersWritten s → t.reg r = s.reg r
  sp : i.movesSp s = false → t.sp = s.sp
  flags : ∀ f, f ∉ i.flagsWritten s → t.flags.get f = s.flags.get f
  ime : t.ime = s.ime ∨ i = .di ∨ i = .ei ∨ i = .reti
  halted : t.halted = s.halted ∨ i = .halt

theorem Keeps.execFrame {i : Instr} {s t : State}
    (h : Keeps (i.registersWritten s) (i.movesSp s) (i.flagsWritten s) s t) : ExecFrame i s t :=
  ⟨h.reg, h.sp, h.flags, .inl h.ime, .inl h.halted⟩

/-- The instruction behind 0xCB, for `exec_frame`. -/
theorem cbInstr_keeps {sub : Byte} {s t : State} (h : exec (cbInstr sub) s = .next t) :
    Keeps (cbRegisters sub) false (cbFlags sub) s t := by
  rw [← Instr.registersWritten_cbInstr s, ← Instr.flagsWritten_cbInstr s]
  unfold cbInstr at h ⊢
  split at h <;> simp only [exec_rotLoc, exec_bitLoc, exec_resLoc, exec_setLoc] at h
  · simpa using modifyLoc_keeps keeps_all_flags h
  · simpa using bitOn_keeps h
  · simpa using resOn_keeps h
  · simpa using setOn_keeps h

/-- The flags that CPL writes are N and H (R174). -/
theorem cpl_keeps_flags (f : Flags) (x : FlagName) (hx : x ∉ [FlagName.N, .H]) :
    Flags.get { f with n := true, h := true } x = f.get x := by
  cases x with
  | Z | C => rfl
  | N | H => simp at hx

/-- SCF and CCF keep Z (R175, R176). -/
theorem carry_keeps_zero (f : Flags) (c : Bool) (x : FlagName) (hx : x ∉ [FlagName.N, .H, .C]) :
    Flags.get { f with n := false, h := false, c := c } x = f.get x := by
  cases x with
  | Z => rfl
  | N | H | C => simp at hx

/-- DAA keeps N (R173). -/
theorem daa8_keeps_n (a : Byte) (f : Flags) (x : FlagName) (hx : x ∉ [FlagName.Z, .H, .C]) :
    (daa8 a f).2.get x = f.get x := by
  cases x with
  | N =>
    unfold daa8
    split <;> rfl
  | Z | H | C => simp at hx

/-- Running an instruction changes, outside memory, only what the tables give it. -/
theorem exec_frame (i : Instr) {s t : State} (h : exec i s = .next t) : ExecFrame i s t := by
  cases i using Instr.byFamily
  case h_prefixCb =>
    rw [exec_row_prefixCb, ← exec_cbInstr] at h
    exact Keeps.execFrame (i := .prefixCb) (cbInstr_keeps h)
  case h_di =>
    cases h
    exact ⟨fun r _ => by simp, fun _ => rfl, fun _ _ => rfl, .inr (.inl rfl), .inl rfl⟩
  case h_ei =>
    cases h
    exact ⟨fun r _ => by simp, fun _ => rfl, fun _ _ => rfl, .inr (.inr (.inl rfl)), .inl rfl⟩
  case h_reti =>
    cases h
    exact ⟨fun r _ => by simp [popState], nofun, fun _ _ => rfl, .inr (.inr (.inr rfl)), .inl rfl⟩
  case h_halt =>
    cases h
    exact ⟨fun r _ => by simp, fun _ => rfl, fun _ _ => rfl, .inl rfl, .inr rfl⟩
  case h_ldRegReg d r => rw [exec_ldRegReg] at h; exact Keeps.execFrame (by simpa using loadReg_keeps h)
  case h_ldRegImm d v => rw [exec_ldRegImm] at h; exact Keeps.execFrame (by simpa using loadReg_keeps h)
  case h_ldRegHL d => rw [exec_ldRegHL] at h; exact Keeps.execFrame (by simpa using loadReg_keeps h)
  case h_ldHLReg r => rw [exec_ldHLReg] at h; exact Keeps.execFrame (by simpa using storeByte_keeps h)
  case h_ldPairImm p v => rw [exec_ldPairImm] at h; exact Keeps.execFrame (by simpa using loadPair_keeps h)
  case h_pushRow p => rw [exec_pushRow] at h; exact Keeps.execFrame (by simpa using pushPair_keeps h)
  case h_popRow p => rw [exec_popRow] at h; exact Keeps.execFrame (by simpa using popPair_keeps h)
  case h_aluLoc op x => rw [exec_aluLoc] at h; exact Keeps.execFrame (by simpa using aluOn_keeps h)
  case h_aluImm op v => rw [exec_aluImm] at h; exact Keeps.execFrame (by simpa using aluOn_keeps h)
  case h_incLoc x => rw [exec_incLoc] at h; exact Keeps.execFrame (by simpa using modifyLoc_keeps (keeps_carry rfl) h)
  case h_decLoc x => rw [exec_decLoc] at h; exact Keeps.execFrame (by simpa using modifyLoc_keeps (keeps_carry rfl) h)
  case h_addHLPair p => rw [exec_addHLPair] at h; exact Keeps.execFrame (by simpa using addHL_keeps h)
  case h_incPair p => rw [exec_incPair] at h; exact Keeps.execFrame (by simpa using loadPair_keeps h)
  case h_decPair p => rw [exec_decPair] at h; exact Keeps.execFrame (by simpa using loadPair_keeps h)
  case h_rotLoc op x => rw [exec_rotLoc] at h; exact Keeps.execFrame (by simpa using modifyLoc_keeps keeps_all_flags h)
  case h_bitLoc b x => rw [exec_bitLoc] at h; exact Keeps.execFrame (by simpa using bitOn_keeps h)
  case h_resLoc b x => rw [exec_resLoc] at h; exact Keeps.execFrame (by simpa using resOn_keeps h)
  case h_setLoc b x => rw [exec_setLoc] at h; exact Keeps.execFrame (by simpa using setOn_keeps h)
  case h_jpCond cc v => rw [exec_jpCond] at h; exact Keeps.execFrame (by simpa using jumpIf_keeps h)
  case h_jrCond cc v => rw [exec_jrCond] at h; exact Keeps.execFrame (by simpa using jumpIf_keeps h)
  case h_callCond cc v => rw [exec_callCond] at h; exact Keeps.execFrame (by simpa using callIf_keeps h)
  case h_retCond cc => rw [exec_retCond] at h; exact Keeps.execFrame (by simpa using returnIf_keeps h)
  case h_rstRow k => rw [exec_rstRow] at h; exact Keeps.execFrame (by simpa using callTo_keeps h)
  case h_illegalRow k => rw [exec_illegalRow] at h; exact Keeps.execFrame (by simpa using illegalOn_keeps h)
  case h_nop => cases h; exact Keeps.execFrame ((Keeps.refl s).advance 1)
  case h_ld_mBC_A => rw [exec_row_ld_mBC_A] at h; exact Keeps.execFrame (by simpa using storeByte_keeps h)
  case h_rlca => rw [exec_row_rlca] at h; exact Keeps.execFrame (by simpa using accResult_keeps keeps_all_flags h)
  case h_ld_ma16_SP a16 => rw [exec_row_ld_ma16_SP] at h; exact Keeps.execFrame (by simpa using storeSp_keeps h)
  case h_ld_A_mBC => rw [exec_row_ld_A_mBC] at h; exact Keeps.execFrame (by simpa using loadReg_keeps h)
  case h_rrca => rw [exec_row_rrca] at h; exact Keeps.execFrame (by simpa using accResult_keeps keeps_all_flags h)
  case h_stop pad => rw [exec_row_stop] at h; exact Keeps.execFrame (by simpa using exec_stop_keeps h)
  case h_ld_mDE_A => rw [exec_row_ld_mDE_A] at h; exact Keeps.execFrame (by simpa using storeByte_keeps h)
  case h_rla => rw [exec_row_rla] at h; exact Keeps.execFrame (by simpa using accResult_keeps keeps_all_flags h)
  case h_jr_r8 r8 => cases h; exact Keeps.execFrame ((Keeps.refl s).setPc _)
  case h_ld_A_mDE => rw [exec_row_ld_A_mDE] at h; exact Keeps.execFrame (by simpa using loadReg_keeps h)
  case h_rra => rw [exec_row_rra] at h; exact Keeps.execFrame (by simpa using accResult_keeps keeps_all_flags h)
  case h_ld_mHLi_A => rw [exec_row_ld_mHLi_A] at h; exact Keeps.execFrame (by simpa using storeAStepHL_keeps h)
  case h_daa => rw [exec_row_daa] at h; exact Keeps.execFrame (by simpa using accResult_keeps (daa8_keeps_n s.a s.flags) h)
  case h_ld_A_mHLi => rw [exec_row_ld_A_mHLi] at h; exact Keeps.execFrame (by simpa using loadAStepHL_keeps h)
  case h_cpl => rw [exec_row_cpl] at h; exact Keeps.execFrame (by simpa using accResult_keeps (cpl_keeps_flags s.flags) h)
  case h_ld_mHLd_A => rw [exec_row_ld_mHLd_A] at h; exact Keeps.execFrame (by simpa using storeAStepHL_keeps h)
  case h_ld_mHL_d8 d8 => rw [exec_row_ld_mHL_d8] at h; exact Keeps.execFrame (by simpa using storeByte_keeps h)
  case h_scf => rw [exec_row_scf] at h; exact Keeps.execFrame (by simpa using flagsOnly_keeps (carry_keeps_zero s.flags true) h)
  case h_ld_A_mHLd => rw [exec_row_ld_A_mHLd] at h; exact Keeps.execFrame (by simpa using loadAStepHL_keeps h)
  case h_ccf => rw [exec_row_ccf] at h; exact Keeps.execFrame (by simpa using flagsOnly_keeps (carry_keeps_zero s.flags _) h)
  case h_jp_a16 a16 => cases h; exact Keeps.execFrame ((Keeps.refl s).setPc a16)
  case h_ret => rw [exec_row_ret] at h; exact Keeps.execFrame (by simpa using returnFrom_keeps h)
  case h_call_a16 a16 => rw [exec_row_call_a16] at h; exact Keeps.execFrame (by simpa using callTo_keeps h)
  case h_ldh_ma8_A a8 => rw [exec_row_ldh_ma8_A] at h; exact Keeps.execFrame (by simpa using storeByte_keeps h)
  case h_ld_mC_A => rw [exec_row_ld_mC_A] at h; exact Keeps.execFrame (by simpa using storeByte_keeps h)
  case h_add_SP_r8 r8 => cases h; exact Keeps.execFrame ((((Keeps.refl s).setSp _).setFlags keeps_all_flags).advance 2)
  case h_jp_mHL => cases h; exact Keeps.execFrame ((Keeps.refl s).setPc _)
  case h_ld_ma16_A a16 => rw [exec_row_ld_ma16_A] at h; exact Keeps.execFrame (by simpa using storeByte_keeps h)
  case h_ldh_A_ma8 a8 => rw [exec_row_ldh_A_ma8] at h; exact Keeps.execFrame (by simpa using loadReg_keeps h)
  case h_ld_A_mC => rw [exec_row_ld_A_mC] at h; exact Keeps.execFrame (by simpa using loadReg_keeps h)
  case h_ld_HL_SPr8 r8 => cases h; exact Keeps.execFrame ((((Keeps.refl s).setHl (by simp) (by simp) _).setFlags keeps_all_flags).advance 2)
  case h_ld_SP_HL => cases h; exact Keeps.execFrame (((Keeps.refl s).setSp _).advance 1)
  case h_ld_A_ma16 a16 => rw [exec_row_ld_A_ma16] at h; exact Keeps.execFrame (by simpa using loadReg_keeps h)

end Sys2Proof.Machine

/-! PROOFS. The frame of an instruction: registers, flags, control state and memory. -/

namespace Sys2Proof.Machine

/-- Settles O24: the two register tables are fields of the frame. -/
theorem execChangesOnlyItsRegisters : Obligations.ExecChangesOnlyItsRegisters := by
  intro i s t h
  have hf := exec_frame i h
  exact ⟨hf.reg, hf.sp⟩

/-- Settles O25: the table of flag effects is a field of the frame. -/
theorem execChangesOnlyTheFlagsOfTheTable : Obligations.ExecChangesOnlyTheFlagsOfTheTable := by
  intro i s t h
  exact (exec_frame i h).flags

/-- Bus writes leave every byte alone that none of them touches. -/
theorem busWrites_peek_other (ws : List (Word × Byte)) (s : State) {x : Word}
    (h : ∀ a ∈ ws.map Prod.fst, touches a x = false) : (busWrites ws s).peek x = s.peek x := by
  induction ws generalizing s with
  | nil => rfl
  | cons w ws ih =>
    obtain ⟨a, v⟩ := w
    rw [List.map_cons, List.forall_mem_cons] at h
    rw [busWrites_cons, ih _ h.2, busEffect_peek_other a v s h.1]

/-- Bus writes outside the unusable region report nothing. -/
theorem busWrites_events (ws : List (Word × Byte)) (s : State)
    (h : ∀ a ∈ ws.map Prod.fst, regionOf a ≠ .unusable) : (busWrites ws s).events = s.events := by
  induction ws generalizing s with
  | nil => rfl
  | cons w ws ih =>
    obtain ⟨a, v⟩ := w
    rw [List.map_cons, List.forall_mem_cons] at h
    rw [busWrites_cons, ih _ h.2, busEffect_events, if_neg h.1]

/-- An illegal row that answers a next state stores nothing. -/
theorem exec_illegalRow_next {k : IllegalOp} {s t : State} (h : exec (.illegalRow k) s = .next t) :
    t = (s.emit (.illegalOpcode k.opcode s.pc)).advance 1 := by
  rw [exec_illegalRow] at h
  exact (illegalOn_next h).2

/-- Settles O23: an instruction's stores are bus writes at its store addresses, and an illegal row has none. -/
theorem execChangesOnlyTheBytesItStoresTo : Obligations.ExecChangesOnlyTheBytesItStoresTo := by
  intro i s t h x hx
  by_cases hi : ∃ k, i = .illegalRow k
  · obtain ⟨k, rfl⟩ := hi
    rw [exec_illegalRow_next h, State.peek_advance, State.peek_emit]
  · obtain ⟨ws, hw⟩ := exec_stores i (not_exists.1 hi) s t h
    have hpeek : t.peek x = (busWrites ws s).peek x := congrArg (·.read x.toNat) hw.mem
    rw [hpeek, busWrites_peek_other ws s (hw.addresses ▸ hx)]

/-- What an instruction does to the counter and the policies. -/
theorem exec_ctr_policy {i : Instr} {s t : State} (h : exec i s = .next t) :
    t.ctr = (if Addr.div ∈ i.storeAddresses s then 0 else s.ctr) ∧ t.policy = s.policy := by
  by_cases hi : ∃ k, i = .illegalRow k
  · obtain ⟨k, rfl⟩ := hi
    rw [exec_illegalRow_next h, Instr.storeAddresses_illegalRow]
    exact ⟨rfl, rfl⟩
  · obtain ⟨ws, hw⟩ := exec_stores i (not_exists.1 hi) s t h
    rw [← hw.addresses, ← busWrites_ctr, hw.ctr, hw.policy]
    exact ⟨rfl, rfl⟩

/-- The latch is set by HALT and by nothing else (46_system R251). -/
theorem exec_halted {i : Instr} {s t : State} (h : exec i s = .next t) : t.halted = (s.halted || decide (i = .halt)) := by
  by_cases hi : i = .halt
  · subst hi
    cases h
    simp
  · rw [(exec_frame i h).halted.resolve_right hi, decide_eq_false hi, Bool.or_false]

/-- Settles O26: the latch is in the frame, and the counter and the events follow the stores. -/
theorem execControlStateFrame : Obligations.ExecControlStateFrame := by
  intro i s t h
  obtain ⟨hctr, hpolicy⟩ := exec_ctr_policy h
  refine ⟨exec_halted h, hctr, hpolicy, fun hi ha => ?_⟩
  obtain ⟨ws, hw⟩ := exec_stores i hi s t h
  rw [hw.events]
  refine busWrites_events ws s fun a hmem hr => ?_
  rw [hw.addresses] at hmem
  exact ha a hmem ((regionOf_unusable_iff a).1 hr)

/-! ### What running an instruction can answer -/

/-- A next state, or the fault of a strict policy for a store at one of the addresses `as` (20_memory R47). -/
def Answers (as : List Word) (s : State) (o : Result) : Prop :=
  (∃ t, o = .next t) ∨
  ∃ a ∈ as, ∃ v, o = .fault (.unusableWrite a v) ∧ regionOf a = .unusable ∧ s.policy.unusableWrite = .strict

namespace Answers

variable {as : List Word} {s : State}

theorem next (t : State) : Answers as s (.next t) := .inl ⟨t, rfl⟩

theorem busWrite {a : Word} (ha : a ∈ as) (v : Byte) : Answers as s (busWrite a v s) := by
  rcases busWrite_cases a v s with h | ⟨h, hr⟩
  · exact .inl ⟨_, h⟩
  · exact .inr ⟨a, ha, v, h, hr⟩

/-- A sequence answers so where its first half does, and its second half after every next state of the first. -/
theorem andThen {o : Result} {k : State → Result} (ho : Answers as s o)
    (hk : ∀ t, o = .next t → Answers as s (k t)) : Answers as s (andThen o k) := by
  rcases ho with ⟨t, rfl⟩ | ⟨a, ha, v, rfl, hr⟩
  · exact hk t rfl
  · exact .inr ⟨a, ha, v, rfl, hr⟩

/-- What is answered after a bus write is judged by the same policy. -/
theorem of_busEffect {o : Result} {a : Word} {v : Byte} (h : Answers as (busEffect a v s) o) : Answers as s o := by
  unfold Answers at h ⊢
  rwa [busEffect_policy] at h

theorem push16 (v : Word) : Answers [s.sp - 1, s.sp - 2] s (push16 v s) := by
  refine andThen (busWrite (by simp) _) fun t ht => ?_
  cases busWrite_next ht
  exact of_busEffect (andThen (busWrite (by simp) _) fun u _ => next _)

theorem busWrite16 (a v : Word) : Answers [a, a + 1] s (busWrite16 a v s) := by
  refine andThen (busWrite (by simp) _) fun t ht => ?_
  cases busWrite_next ht
  exact of_busEffect (busWrite (by simp) _)

theorem writeLoc (x : Loc8) (v : Byte) : Answers (storesAt s x) s (writeLoc x v s) := by
  cases x with
  | reg r => exact next _
  | atHL => exact busWrite (List.mem_singleton.2 rfl) v

theorem modifyLoc (x : Loc8) (rf : Byte × Flags) (len : Word) : Answers (storesAt s x) s (modifyLoc x rf len s) :=
  andThen (writeLoc x rf.1) fun _ _ => next _

theorem rotateOn (op : RotOp) (x : Loc8) : Answers (storesAt s x) s (rotateOn op x s) := modifyLoc x _ 2

theorem bitOn (b : BitIdx) (x : Loc8) : Answers as s (bitOn b x s) := next _

theorem aluOn (op : AluOp) (x : Byte) (len : Word) : Answers as s (aluOn op x len s) := by
  cases op <;> exact next _

theorem resOn (b : BitIdx) (x : Loc8) : Answers (storesAt s x) s (resOn b x s) :=
  andThen (writeLoc x _) fun _ _ => next _

theorem setOn (b : BitIdx) (x : Loc8) : Answers (storesAt s x) s (setOn b x s) :=
  andThen (writeLoc x _) fun _ _ => next _

theorem storeByte (a : Word) (v : Byte) (len : Word) : Answers [a] s (storeByte a v len s) :=
  andThen (busWrite (List.mem_singleton.2 rfl) v) fun _ _ => next _

theorem storeAStepHL (x : Word) : Answers [s.hl] s (storeAStepHL x s) :=
  andThen (busWrite (List.mem_singleton.2 rfl) s.a) fun _ _ => next _

theorem pushPair (p : StackPair) : Answers [s.sp - 1, s.sp - 2] s (pushPair p s) :=
  andThen (push16 _) fun _ _ => next _

theorem callTo (target len : Word) : Answers [s.sp - 1, s.sp - 2] s (callTo target len s) :=
  andThen (push16 _) fun _ _ => next _

theorem callIf (c : Bool) (target : Word) :
    Answers (if c then [s.sp - 1, s.sp - 2] else []) s (callIf c target s) := by
  cases c with
  | true => exact callTo target 3
  | false => exact next _

theorem returnIf (c : Bool) : Answers as s (returnIf c s) := by
  cases c <;> exact next _

theorem cbInstr (sub : Byte) : Answers (cbStores sub s) s (exec (cbInstr sub) s) := by
  rw [← Instr.storeAddresses_cbInstr]
  unfold Sys2Proof.cbInstr
  split
  · simpa using rotateOn _ _
  · simpa using bitOn _ _
  · simpa using resOn _ _
  · simpa using setOn _ _

end Answers

/-- Everything running an instruction can answer but for the illegal rows and STOP: a next state, or the fault of a store
at one of its addresses. -/
theorem exec_answers (i : Instr) (s : State) (hi : ∀ k, i ≠ .illegalRow k) (hs : ∀ pad, i ≠ .stop pad) :
    Answers (i.storeAddresses s) s (exec i s) := by
  cases i using Instr.byFamily
  case h_illegalRow k => exact absurd rfl (hi k)
  case h_stop pad => exact absurd rfl (hs pad)
  case h_prefixCb =>
    rw [exec_row_prefixCb, ← exec_cbInstr]
    exact .cbInstr _
  case h_ldHLReg r => simpa using .storeByte _ _ _
  case h_pushRow p => simpa using .pushPair p
  case h_aluLoc op x => simpa using .aluOn op _ 1
  case h_aluImm op v => simpa using .aluOn op v 2
  case h_incLoc x => simpa using .modifyLoc x _ 1
  case h_decLoc x => simpa using .modifyLoc x _ 1
  case h_rotLoc op x => simpa using .rotateOn op x
  case h_resLoc b x => simpa using .resOn b x
  case h_setLoc b x => simpa using .setOn b x
  case h_callCond cc v => simpa using .callIf _ v
  case h_retCond cc => simpa using .returnIf _
  case h_rstRow k => simpa using .callTo k.address 1
  case h_ld_mBC_A => exact .storeByte s.bc s.a 1
  case h_ld_ma16_SP a16 => exact .andThen (.busWrite16 a16 s.sp) fun _ _ => .next _
  case h_ld_mDE_A => exact .storeByte s.de s.a 1
  case h_ld_mHLi_A => exact .storeAStepHL 1
  case h_ld_mHLd_A => exact .storeAStepHL (-1)
  case h_ld_mHL_d8 d8 => exact .storeByte s.hl d8 2
  case h_call_a16 a16 => exact .callTo a16 3
  case h_ldh_ma8_A a8 => exact .storeByte (ioPage a8) s.a 2
  case h_ld_mC_A => exact .storeByte (ioPage s.c) s.a 1
  case h_ld_ma16_A a16 => exact .storeByte a16 s.a 3
  case h_ldRegReg | h_ldRegImm | h_ldRegHL | h_ldPairImm | h_popRow | h_addHLPair | h_incPair | h_decPair | h_bitLoc |
      h_jpCond | h_jrCond =>
    simp only [exec_ldRegReg, exec_ldRegImm, exec_ldRegHL, exec_ldPairImm, exec_popRow, exec_addHLPair, exec_incPair,
      exec_decPair, exec_bitLoc, exec_jpCond, exec_jrCond]
    exact .next _
  all_goals exact .next _

/-- Settles O27: a store that may be made is no fault, an illegal row is reported, STOP is skipped. -/
theorem everyInstructionCompletes : Obligations.EveryInstructionCompletes := by
  intro i s hstore hillegal hstop
  by_cases hi : ∃ k, i = .illegalRow k
  · obtain ⟨k, rfl⟩ := hi
    have hp : s.policy.illegalOpcode = .permissive := hillegal.resolve_right fun h => h k rfl
    exact ⟨_, by rw [exec_illegalRow, illegalOn, hp]⟩
  by_cases hs : ∃ pad, i = .stop pad
  · obtain ⟨pad, rfl⟩ := hs
    have hp : s.policy.stop = .nop2 := hstop.resolve_right fun h => h pad rfl
    exact ⟨_, by rw [exec_row_stop, exec_stop, hp]⟩
  rcases exec_answers i s (not_exists.1 hi) (not_exists.1 hs) with ht | ⟨a, ha, v, -, hr, hp⟩
  · exact ht
  · rcases hstore a ha with h | h
    · rw [h] at hp
      cases hp
    · exact absurd ((regionOf_unusable_iff a).1 hr) h

end Sys2Proof.Machine

/-! PROOFS. What every step keeps: memory's canonical form, the echo, the read-only bytes, the fixed bits and the policies;
and where a step can stop (60_exceptions R260, R281). -/

namespace Sys2Proof.Machine

theorem peek_eq_of_mem_eq {s t : State} (h : t.mem = s.mem) (x : Word) : t.peek x = s.peek x :=
  congrArg (·.read x.toNat) h

/-- Settles O17: a bus write, a raw write and a tick keep the canonical form. -/
theorem stepKeepsMemoryCanonical : Obligations.StepKeepsMemoryCanonical := by
  intro s t hs h
  exact step_keeps (P := fun s => s.mem.wf = true) (fun _ _ hm _ hp => hm ▸ hp) (fun a v s => busEffect_wf a v s)
    (fun v s => State.wf_poke _ v) (fun s => timerTick_wf) h hs

/-- The echo is a fact about the bytes of the two ranges alone. -/
theorem echoed_of_peek_eq {s t : State}
    (h : ∀ x, regionOf x = .workRam ∨ regionOf x = .echoRam → t.peek x = s.peek x) (hs : s.echoed) : t.echoed := by
  intro x hx1 hx2
  have hecho : regionOf (x + 0x2000) = .echoRam := (regionOf_echoRam_iff _).2 (by bv_omega)
  rw [h x (.inl ((regionOf_workRam_iff x).2 ⟨hx1, hx2⟩)), h _ (.inr hecho)]
  exact hs x hx1 hx2

/-- An address of work RAM or echo RAM is none of another region. -/
theorem ne_of_ram {x a : Word} (hx : regionOf x = .workRam ∨ regionOf x = .echoRam)
    (ha : regionOf a ≠ .workRam ∧ regionOf a ≠ .echoRam) : x ≠ a := by
  rintro rfl
  exact hx.elim ha.1 ha.2

/-- Settles O18: a bus write keeps the echo, and the raw writes of the dispatch and of the tick are at no RAM address. -/
theorem stepKeepsEchoRam : Obligations.StepKeepsEchoRam := by
  intro s t hs h
  refine step_keeps (P := State.echoed) (fun _ _ hm _ => echoed_of_peek_eq fun x _ => peek_eq_of_mem_eq hm x)
    (fun a v s => busEffect_echoed a v) (fun v s => echoed_of_peek_eq fun x hx => ?_)
    (fun s => echoed_of_peek_eq fun x hx => ?_) h hs
  · exact State.peek_poke_other s (ne_of_ram hx (by decide)) v
  · exact timerTick_peek_other s (ne_of_ram hx (by decide)) (ne_of_ram hx (by decide)) (ne_of_ram hx (by decide))

/-- Outside RAM and OAM a bus write touches only the byte at its address. -/
theorem touches_of_ne {a x : Word} (hne : x ≠ a) (hx : x.toNat < 0xC000 ∨ 0xFE9F < x.toNat) : touches a x = false := by
  have hoam : ¬ (0xFE00 ≤ x.toNat ∧ x.toNat ≤ 0xFE9F) := by omega
  unfold touches
  split
  case h_2 h =>
    have ha := (regionOf_workRam_iff a).1 h
    have hmirror : x ≠ a + 0x2000 := by bv_omega
    exact Bool.or_eq_false_iff.2 ⟨beq_false_of_ne hne, beq_false_of_ne hmirror⟩
  case h_3 h =>
    have ha := (regionOf_echoRam_iff a).1 h
    have hmirror : x ≠ a - 0x2000 := by bv_omega
    exact Bool.or_eq_false_iff.2 ⟨beq_false_of_ne hne, beq_false_of_ne hmirror⟩
  all_goals simp [hne, hoam]

/-- No bus write touches ROM or the unusable region (R44, R47). -/
theorem touches_readOnly (a : Word) {x : Word} (hx : x.toNat < 0x8000 ∨ (0xFEA0 ≤ x.toNat ∧ x.toNat ≤ 0xFEFF)) :
    touches a x = false := by
  by_cases hne : x = a
  · subst hne
    have hr : regionOf x = .rom ∨ regionOf x = .unusable := hx.imp regionOf_rom (regionOf_unusable_iff x).2
    rcases hr with hr | hr <;> rw [touches, hr]
  · exact touches_of_ne hne (by omega)

/-- A step reaches the bytes that bus writes touch, and DIV, TIMA and IF. -/
theorem step_peek_of_untouched {s t : State} (h : step s = .next t) {x : Word} (hx : ∀ a, touches a x = false)
    (hdiv : x ≠ Addr.div) (htima : x ≠ Addr.tima) (hif : x ≠ Addr.ifReg) : t.peek x = s.peek x :=
  step_keeps (P := fun u => u.peek x = s.peek x) (fun _ _ hm _ hu => (peek_eq_of_mem_eq hm x).trans hu)
    (fun a v u hu => (busEffect_peek_other a v u (hx a)).trans hu) (fun v u hu => (State.peek_poke_other u hif v).trans hu)
    (fun u hu => (timerTick_peek_other u hdiv htima hif).trans hu) h rfl

/-- Settles O19: no bus write touches these bytes, and they are none of DIV, TIMA and IF. -/
theorem stepNeverChangesRomOrTheUnusableRegion : Obligations.StepNeverChangesRomOrTheUnusableRegion := by
  intro s t h x hx
  have hio : ∀ a : Word, 0xFF00 ≤ a.toNat → x ≠ a := by
    rintro a ha rfl
    omega
  exact step_peek_of_untouched h (fun a => touches_readOnly a hx) (hio _ (by decide)) (hio _ (by decide))
    (hio _ (by decide))

/-- A write to JOYP stores the select lines only (20_memory R48). -/
theorem busEffect_joyp (v : Byte) (s : State) :
    busEffect 0xFF00 v s = s.poke 0xFF00 ((s.peek 0xFF00 &&& 0xCF) ||| (v &&& 0x30)) := rfl

/-- A write to TAC stores its three low bits only (20_memory R50). -/
theorem busEffect_tac (v : Byte) (s : State) :
    busEffect 0xFF07 v s = s.poke 0xFF07 ((s.peek 0xFF07 &&& 0xF8) ||| (v &&& 0x07)) := rfl

/-- The kept bits of a masked write are those of the old byte. -/
theorem masked_and_kept (old v kept written : Byte) (hd : written &&& kept = 0#8) :
    ((old &&& kept) ||| (v &&& written)) &&& kept = old &&& kept := by
  rw [BitVec.and_or_distrib_right, BitVec.and_assoc, BitVec.and_assoc, hd, BitVec.and_self, BitVec.and_zero,
    BitVec.or_zero]

/-- A step keeps the bits of a register that bus writes at its address keep. -/
theorem step_keeps_bits {x : Word} {kept : Byte} (hx : 0xFE9F < x.toNat)
    (hmask : ∀ v u, (busEffect x v u).peek x &&& kept = u.peek x &&& kept) (hdiv : x ≠ Addr.div) (htima : x ≠ Addr.tima)
    (hif : x ≠ Addr.ifReg) {s t : State} (h : step s = .next t) : t.peek x &&& kept = s.peek x &&& kept := by
  refine step_keeps (P := fun u => u.peek x &&& kept = s.peek x &&& kept) (fun u t hm _ hu => ?_) (fun a v u hu => ?_)
    (fun v u hu => ?_) (fun u hu => ?_) h rfl
  · rwa [peek_eq_of_mem_eq hm]
  · by_cases ha : x = a
    · subst ha
      rwa [hmask]
    · rwa [busEffect_peek_other a v u (touches_of_ne ha (.inr hx))]
  · rwa [State.peek_poke_other u hif]
  · rwa [timerTick_peek_other u hdiv htima hif]

theorem step_policy {s t : State} (h : step s = .next t) : t.policy = s.policy :=
  step_keeps (P := fun u => u.policy = s.policy) (fun _ _ _ hp hu => hp.trans hu)
    (fun a v u hu => (busEffect_policy a v u).trans hu) (fun _ _ hu => hu) (fun u hu => (timerTick_policy u).trans hu) h rfl

/-- Settles O20: a bus write at either register keeps the bits its mask leaves out, and nothing else reaches them. -/
theorem stepKeepsTheFixedBitsOfJoypAndTac : Obligations.StepKeepsTheFixedBitsOfJoypAndTac := by
  intro s t h
  refine ⟨step_keeps_bits (by decide) (fun v u => ?_) (by decide) (by decide) (by decide) h,
    step_keeps_bits (by decide) (fun v u => ?_) (by decide) (by decide) (by decide) h, step_policy h⟩
  · rw [busEffect_joyp, State.peek_poke_same]
    exact masked_and_kept _ v 0xCF 0x30 rfl
  · rw [busEffect_tac, State.peek_poke_same]
    exact masked_and_kept _ v 0xF8 0x07 rfl

/-! ### The counter -/

theorem busEffect_ctr_cases (a : Word) (v : Byte) (s : State) :
    (busEffect a v s).ctr = s.ctr ∨ (busEffect a v s).ctr = 0 := by
  rw [busEffect_ctr]
  split
  · exact .inr rfl
  · exact .inl rfl

/-- A push may clear the counter, where it meets DIV. -/
theorem pushed_ctr_cases (v : Word) (s : State) : (pushed v s).ctr = s.ctr ∨ (pushed v s).ctr = 0 := by
  rcases busEffect_ctr_cases (s.sp - 2) (loByte v) (busEffect (s.sp - 1) (hiByte v) s) with h | h
  · rcases busEffect_ctr_cases (s.sp - 1) (hiByte v) s with h' | h'
    · exact .inl (h.trans h')
    · exact .inr (h.trans h')
  · exact .inr h

theorem beforeInstruction_ctr {s t : State} (h : beforeInstruction s = .next t) : t.ctr = s.ctr ∨ t.ctr = 0 := by
  rcases beforeInstruction_cases s with ⟨hb, -⟩ | ⟨i, -, -, hb⟩
  · rw [hb] at h
    cases h
    exact .inl (awake_ctr s)
  · rw [hb] at h
    cases takeInterrupt_next h
    have hack : (acknowledged i (awake s)).ctr = s.ctr := awake_ctr s
    have hpush := pushed_ctr_cases (awake s).pc (acknowledged i (awake s))
    rwa [hack] at hpush

theorem runInstruction_ctr {s t : State} (h : runInstruction s = .next t) : t.ctr = s.ctr ∨ t.ctr = 0 := by
  cases hh : s.halted with
  | true =>
    rw [runInstruction_halted hh] at h
    cases h
    exact .inl rfl
  | false =>
    rw [runInstruction_running hh] at h
    rw [(exec_ctr_policy h).1]
    split
    · exact .inr rfl
    · exact .inl rfl

/-- Settles O15: the tick that ends a step mirrors the counter it counts, which was cleared or not. -/
theorem divMirrorsTheCounterAfterEveryStep : Obligations.DivMirrorsTheCounterAfterEveryStep := by
  intro s t h
  obtain ⟨u, v, hu, hv, rfl⟩ := step_eq_next.1 h
  have hctr : v.ctr = s.ctr ∨ v.ctr = 0 :=
    (runInstruction_ctr hv).elim (fun e => e ▸ beforeInstruction_ctr hu) .inr
  rw [timerTick_ctr]
  exact ⟨timerTick_div v, hctr.imp (congrArg (· + 1)) (congrArg (· + 1))⟩

/-! ### Where a step stops -/

/-- The policies `p` let an operation answer this: a next state always, a fault or a refusal where a policy is for it
(R281, 46_system R252). -/
def Permitted (p : Policy) : Result → Prop
  | .next _ => True
  | .fault f =>
    (∃ (k : IllegalOp) (a : Word), f = .illegalOpcode k.opcode a ∧ p.illegalOpcode = .strict) ∨
    (∃ (a : Word) (v : Byte), f = .unusableWrite a v ∧ p.unusableWrite = .strict ∧ 0xFEA0 ≤ a.toNat ∧ a.toNat ≤ 0xFEFF)
  | .refused r => r = .stopOutsideSpec ∧ p.stop = .refuse

theorem Permitted.andThen {p : Policy} {o : Result} {k : State → Result} (ho : Permitted p o)
    (hk : ∀ t, o = .next t → Permitted p (k t)) : Permitted p (andThen o k) := by
  cases o with
  | next t => exact hk t rfl
  | fault f => exact ho
  | refused r => exact ho

theorem Answers.permitted {as : List Word} {s : State} {o : Result} (h : Answers as s o) : Permitted s.policy o := by
  rcases h with ⟨t, rfl⟩ | ⟨a, -, v, rfl, hr, hp⟩
  · trivial
  · exact .inr ⟨a, v, rfl, hp, (regionOf_unusable_iff a).1 hr⟩

theorem illegalOn_permitted (k : IllegalOp) (s : State) : Permitted s.policy (illegalOn k s) := by
  unfold illegalOn
  split
  · trivial
  · next hp => exact .inl ⟨k, s.pc, rfl, hp⟩

theorem exec_stop_permitted (pad : Byte) (s : State) : Permitted s.policy (exec_stop pad s) := by
  unfold exec_stop
  split
  · trivial
  · next hp => exact ⟨rfl, hp⟩

theorem exec_permitted (i : Instr) (s : State) : Permitted s.policy (exec i s) := by
  by_cases hi : ∃ k, i = .illegalRow k
  · obtain ⟨k, rfl⟩ := hi
    rw [exec_illegalRow]
    exact illegalOn_permitted k s
  by_cases hs : ∃ pad, i = .stop pad
  · obtain ⟨pad, rfl⟩ := hs
    exact exec_stop_permitted pad s
  exact (exec_answers i s (not_exists.1 hi) (not_exists.1 hs)).permitted

theorem runInstruction_permitted (s : State) : Permitted s.policy (runInstruction s) := by
  unfold runInstruction
  split
  · trivial
  · exact exec_permitted _ s

theorem takeInterrupt_permitted (i : Irq) (s : State) : Permitted s.policy (takeInterrupt i s) :=
  Permitted.andThen (Answers.push16 (s := acknowledged i s) s.pc).permitted fun _ _ => trivial

theorem beforeInstruction_permitted (s : State) : Permitted s.policy (beforeInstruction s) := by
  rcases beforeInstruction_cases s with ⟨hb, -⟩ | ⟨i, -, -, hb⟩
  · rw [hb]
    trivial
  · rw [hb, ← awake_policy s]
    exact takeInterrupt_permitted i _

theorem beforeInstruction_policy {s t : State} (h : beforeInstruction s = .next t) : t.policy = s.policy := by
  rcases beforeInstruction_cases s with ⟨hb, -⟩ | ⟨i, -, -, hb⟩
  · rw [hb] at h
    cases h
    exact awake_policy s
  · rw [hb] at h
    cases takeInterrupt_next h
    simp [interrupted, pushed, acknowledged]

/-- Wherever a step stops, a policy is for it. -/
theorem step_permitted (s : State) : Permitted s.policy (step s) := by
  refine (beforeInstruction_permitted s).andThen fun t ht => ?_
  rw [← beforeInstruction_policy ht]
  exact (runInstruction_permitted t).andThen fun _ _ => trivial

/-- Settles O22: it is `Permitted` of the step, read at a fault and at a refusal. -/
theorem stopsOnlyUnderAStrictPolicy : Obligations.StopsOnlyUnderAStrictPolicy := by
  intro s
  have h := step_permitted s
  refine ⟨fun f hf => ?_, fun r hr => ?_⟩
  · rwa [hf] at h
  · rwa [hr] at h

/-- Under the permissive policies everything permitted is a next state. -/
theorem Permitted.next {s : State} (hs : s.permissive) {o : Result} (h : Permitted s.policy o) : ∃ t, o = .next t := by
  obtain ⟨hi, hu, hstop⟩ := hs
  cases o with
  | next t => exact ⟨t, rfl⟩
  | fault f => rcases h with ⟨k, a, -, h⟩ | ⟨a, v, -, h, -⟩ <;> simp_all
  | refused r => simp_all [Permitted]

/-- Settles O21: every stop needs a policy that is not permissive, and a step keeps the policies. -/
theorem permissiveStepIsTotal : Obligations.PermissiveStepIsTotal := by
  intro s hs
  obtain ⟨t, ht⟩ := (step_permitted s).next hs
  refine ⟨t, ht, ?_⟩
  unfold State.permissive
  rwa [step_policy ht]

end Sys2Proof.Machine

/-! PROOFS. The phases of a step: the `ime` state machine, waking, dispatching, running and ticking (60_exceptions R260 to
R272). -/

namespace Sys2Proof.Machine

/-! ### The interrupt master enable -/

/-- Of all instructions only DI, EI and RETI change `ime` (R261). -/
theorem exec_ime {i : Instr} {s t : State} (h : exec i s = .next t) :
    t.ime =
      if i = .di then .disabled
      else if i = .ei then (if s.ime = .disabled then .scheduled .two else s.ime)
      else if i = .reti then .enabled
      else s.ime := by
  split
  case isTrue hi =>
    subst hi
    cases h
    rfl
  case isFalse hdi =>
    split
    case isTrue hi =>
      subst hi
      cases h
      rw [State.advance_ime, State.setIme_ime]
      cases s.ime <;> rfl
    case isFalse hei =>
      split
      case isTrue hi =>
        subst hi
        cases h
        rfl
      case isFalse hreti => exact (exec_frame i h).ime.resolve_right (by simp [hdi, hei, hreti])

theorem tick_eq_ite (i : Ime) :
    i.tick = if i = .scheduled .two then .scheduled .one else if i = .scheduled .one then .enabled else i := by
  rcases i with _ | n | _
  · rfl
  · cases n <;> rfl
  · rfl

theorem exists_irq_bit {n : Nat} (h : n < 5) : ∃ j : Irq, j.bit = n := by
  match n, h with
  | 0, _ => exact ⟨.vblank, rfl⟩
  | 1, _ => exact ⟨.lcdStat, rfl⟩
  | 2, _ => exact ⟨.timer, rfl⟩
  | 3, _ => exact ⟨.serial, rfl⟩
  | 4, _ => exact ⟨.joypad, rfl⟩

/-- The bits of the byte that the wake condition tests (R266). -/
theorem getLsbD_wakeByte (s : State) {n : Nat} (h : n < 8) :
    (s.peek Addr.ifReg &&& s.peek Addr.ieReg &&& 0x1F).getLsbD n =
      ((s.peek Addr.ifReg).getLsbD n && (s.peek Addr.ieReg).getLsbD n && decide (n < 5)) := by
  have hmask : ∀ k : Fin 8, (0x1F : Byte).getLsbD k = decide ((k : Nat) < 5) := by decide
  rw [BitVec.getLsbD_and, BitVec.getLsbD_and, hmask ⟨n, h⟩]

/-- The wake condition is that some source is both pending and enabled (R266, R268). -/
theorem wakeCondition_iff (s : State) : wakeCondition s = true ↔ ∃ j : Irq, j.active s = true := by
  have hbits (n : Nat) : (0 : Byte).getLsbD n = false := BitVec.getLsbD_zero
  rw [wakeCondition, bne_iff_ne]
  constructor
  · intro hne
    by_contra hnone
    refine hne (BitVec.eq_of_getLsbD_eq fun n hn => ?_)
    rw [getLsbD_wakeByte s hn, hbits, Bool.and_eq_false_iff, decide_eq_false_iff_not]
    refine or_iff_not_imp_right.2 fun h5 => ?_
    obtain ⟨j, rfl⟩ := exists_irq_bit (not_not.1 h5)
    exact Bool.eq_false_iff.2 (not_exists.1 hnone j)
  · rintro ⟨j, hj⟩ hzero
    have hbit : j.bit < 5 := by cases j <;> decide
    have := getLsbD_wakeByte s (n := j.bit) (by omega)
    rw [hzero, hbits, decide_eq_true hbit, Bool.and_true] at this
    exact Bool.false_ne_true (this.trans hj)

theorem wakeCondition_eq_false_iff (s : State) : wakeCondition s = false ↔ pendingIrq s = none := by
  rw [pendingIrq_eq_none, ← Bool.not_eq_true, wakeCondition_iff, not_exists]
  simp only [Bool.not_eq_true]

theorem wakeCondition_of_pending {s : State} {i : Irq} (h : pendingIrq s = some i) : wakeCondition s = true := by
  rw [← Bool.not_eq_false, wakeCondition_eq_false_iff, h]
  exact nofun

/-- What the phases before the instruction make of `ime` (R262, R267). -/
theorem beforeInstruction_ime {s t : State} (h : beforeInstruction s = .next t) :
    t.ime = if s.ime.tick = .enabled ∧ wakeCondition s = true then .disabled else s.ime.tick := by
  rcases beforeInstruction_cases s with ⟨hb, hquiet⟩ | ⟨i, htick, hi, hb⟩
  · rw [hb] at h
    cases h
    rw [if_neg, awake_ime]
    rintro ⟨htick, hwake⟩
    rw [(wakeCondition_eq_false_iff s).2 (hquiet.resolve_left (not_not.2 htick))] at hwake
    cases hwake
  · rw [hb] at h
    cases takeInterrupt_next h
    rw [if_pos ⟨htick, wakeCondition_of_pending hi⟩, interrupted_ime]

/-- Settles O12: the transitions of the instruction, of the phases before it and of the tick. -/
theorem onlyListedEventsChangeIme : Obligations.OnlyListedEventsChangeIme := by
  refine ⟨fun i s t h => exec_ime h, fun s t h => ?_, timerTick_ime⟩
  intro counted
  have hcounted : s.ime.tick = counted := tick_eq_ite s.ime
  rw [← hcounted]
  exact beforeInstruction_ime h

/-! ### Counting, waking and dispatching -/

/-- What the phases before the dispatch leave, field by field. -/
theorem awake_eq (s : State) :
    awake s = { s with
      ime := s.ime.tick, events := [], halted := s.halted && !wakeCondition s
      pc := if s.halted && wakeCondition s then s.pc + 1 else s.pc } := by
  have hwake : wakeCondition (imeSchedule s.clearEvents) = wakeCondition s := rfl
  have hhalted : (imeSchedule s.clearEvents).halted = s.halted := rfl
  rw [awake, haltWake, hwake, hhalted]
  obtain ⟨a, b, c, d, e, hh, l, flags, sp, pc, ime, halted, ctr, mem, events, policy⟩ := s
  cases halted
  · rfl
  · split
    · next h => simp_all [imeSchedule, State.clearEvents, State.setIme, State.setHalted, State.advance]
    · next h => simp_all [imeSchedule, State.clearEvents, State.setIme]

/-- Without a dispatch the instruction starts from the awake state. -/
theorem beforeInstruction_quiet {s : State} (h : s.ime.tick ≠ .enabled ∨ pendingIrq s = none) :
    beforeInstruction s = .next (awake s) := by
  rcases beforeInstruction_cases s with ⟨hb, -⟩ | ⟨i, htick, hi, -⟩
  · exact hb
  · rcases h with h | h
    · exact absurd htick h
    · rw [h] at hi
      cases hi

theorem step_of_beforeInstruction {s t : State} (h : beforeInstruction s = .next t) :
    step s = andThen (runInstruction t) fun u => .next (timerTick u) := by
  rw [step, h, andThen_next]

/-- A running core that dispatches nothing only counts and clears the events. -/
theorem beforeInstruction_running {s : State} (hrun : s.halted = false)
    (h : s.ime.tick ≠ .enabled ∨ pendingIrq s = none) :
    beforeInstruction s = .next { s with ime := s.ime.tick, events := [] } := by
  rw [beforeInstruction_quiet h, awake_of_running s hrun]
  rfl

/-- What is decoded from the bytes at PC is what is fetched (30_encoding R80). -/
theorem fetchInstr_of_decode {t : State} {i : Instr} {rest : List Byte}
    (h : decode [t.peek t.pc, t.peek (t.pc + 1), t.peek (t.pc + 2)] = .ok (i, rest)) : fetchInstr t = i := by
  rw [(decodedBytesReencode _ _ _).2.1] at h
  exact congrArg Prod.fst (Except.ok.inj h)

/-- Settles O8: a step is its phases in order, and fetching agrees with the decoder. -/
theorem stepRunsTheDecodedInstruction : Obligations.StepRunsTheDecodedInstruction := by
  refine ⟨fun s t i rest hb hrun hd => ?_, fun s hrun h => ?_⟩
  · rw [step_of_beforeInstruction hb, runInstruction_running hrun, fetchInstr_of_decode hd]
  · exact beforeInstruction_running hrun (h.imp_right pendingIrq_eq_none.2)

/-- Settles O9: with no wake condition the halted core stays as it is, with one it is past the HALT byte. -/
theorem haltedStepAndWake : Obligations.HaltedStepAndWake := by
  refine ⟨fun s hh hw => ?_, fun s hh hw htick => ?_, wakeCondition_iff⟩
  · rw [step_of_beforeInstruction (beforeInstruction_quiet (.inr ((wakeCondition_eq_false_iff s).1 hw))),
      runInstruction_halted (by simp [awake_eq, hh, hw])]
    simp [awake_eq, hh, hw]
  · intro w
    have hawake : awake s = w := by simp [awake_eq, hh, hw, w]
    rw [step_of_beforeInstruction (beforeInstruction_quiet (.inl htick)), hawake, runInstruction_running rfl]
    have h2 : s.pc + 1 + 1 = s.pc + 2 := BitVec.add_assoc _ _ _
    have h3 : s.pc + 1 + 2 = s.pc + 3 := BitVec.add_assoc _ _ _
    rw [← h2, ← h3]
    rfl

/-- Settles O10: the lowest active source is taken, from a state whose fields are known. -/
theorem dispatchEntersTheVector : Obligations.DispatchEntersTheVector := by
  intro s i htick hi hlow h1 h2 back cleared
  have hpending : pendingIrq s = some i := pendingIrq_of_lowest hi hlow
  have hwake := wakeCondition_of_pending hpending
  have hack : acknowledged i (awake s) = cleared := by
    rw [awake_eq, hwake]
    simp only [Bool.and_true, Bool.not_true, Bool.and_false]
    rfl
  rcases beforeInstruction_cases s with ⟨-, hquiet⟩ | ⟨j, -, hj, hb⟩
  · rcases hquiet with h | h
    · exact absurd htick h
    · rw [hpending] at h
      cases h
  · cases hpending.symm.trans hj
    have hm1 : (awake s).mayStore ((awake s).sp - 1) := by rwa [State.mayStore, awake_policy, awake_sp]
    have hm2 : (awake s).mayStore ((awake s).sp - 2) := by rwa [State.mayStore, awake_policy, awake_sp]
    have hpc : (awake s).pc = back := congrArg State.pc hack
    rw [hb, takeInterrupt_of_mayStore i hm1 hm2, interrupted, hack, hpc]
    rfl

/-- A step of a running core that dispatches nothing runs the instruction at its PC. -/
theorem step_running {s t : State} (hrun : s.halted = false) (h : s.ime.tick ≠ .enabled ∨ pendingIrq s = none)
    (hst : step s = .next t) :
    ∃ v, exec (fetchInstr s) { s with ime := s.ime.tick, events := [] } = .next v ∧ t = timerTick v := by
  rw [step_of_beforeInstruction (beforeInstruction_running hrun h),
    runInstruction_running (s := { s with ime := s.ime.tick, events := [] }) hrun] at hst
  obtain ⟨v, hv, htick⟩ := andThen_eq_next.1 hst
  exact ⟨v, hv, (next_inj.1 htick).symm⟩

/-- Settles O13: EI leaves a schedule of two counts, and each of the next two steps counts one. -/
theorem eiTakesEffectAfterOneInstruction : Obligations.EiTakesEffectAfterOneInstruction := by
  intro s t u hime hrun hfetch hst htu
  have hei : fetchInstr s = .ei := hfetch
  obtain ⟨v, hv, rfl⟩ := step_running hrun (.inl (by rw [hime]; decide)) hst
  rw [hei] at hv
  have hvime : (timerTick v).ime = .scheduled .two := by
    rw [timerTick_ime, exec_ime hv, hime]
    rfl
  have hvrun : (timerTick v).halted = false := by
    rw [timerTick_halted, exec_halted hv, hrun]
    rfl
  have hone : (timerTick v).ime.tick = .scheduled .one := by rw [hvime]; rfl
  have hquiet : (timerTick v).ime.tick ≠ .enabled := by rw [hone]; decide
  refine ⟨hvime, hone ▸ beforeInstruction_running hvrun (.inl hquiet), fun hdi hreti => ?_⟩
  obtain ⟨w, hw, rfl⟩ := step_running hvrun (.inl hquiet) htu
  have hwime : (timerTick w).ime = .scheduled .one := by
    rw [timerTick_ime, exec_ime hw, if_neg hdi, if_neg hreti, hone]
    split <;> rfl
  exact ⟨hwime, by rw [hwime]; rfl⟩

/-! ### The timer tick -/

theorem timerPeriod_eq (tac : Byte) : timerPeriod tac = [256, 4, 16, 64].getD (tac.toNat % 4) 0 := by
  have hlow : (tac &&& 0x03).toNat = tac.toNat % 4 := Nat.and_two_pow_sub_one_eq_mod tac.toNat 2
  have hlt : tac.toNat % 4 < 4 := Nat.mod_lt _ (by decide)
  rw [timerPeriod, hlow]
  generalize tac.toNat % 4 = n at hlt
  match n, hlt with
  | 0, _ | 1, _ | 2, _ | 3, _ => rfl

theorem countAndMirror_peek (s : State) (x : Word) :
    (countAndMirror s).peek x = if x = Addr.div then hiByte (s.ctr + 1) else s.peek x :=
  State.peek_poke (s.setCtr (s.ctr + 1)) _ _ _

theorem timaDue_countAndMirror (s : State) :
    timaDue (countAndMirror s) = ((s.peek Addr.tac).getLsbD 2 &&
      decide ((s.ctr + 1).toNat % [256, 4, 16, 64].getD ((s.peek Addr.tac).toNat % 4) 0 = 0)) := by
  rw [timaDue, timerPeriod_eq, countAndMirror_ctr, countAndMirror_peek, if_neg (by decide)]

/-- What the TIMA increment and its overflow do, byte by byte (R272). -/
theorem timaIncrement_peek (s : State) (x : Word) :
    (timaIncrement s).peek x =
      if x = Addr.tima then (if s.peek Addr.tima = 0xFF then s.peek Addr.tma else s.peek Addr.tima + 1)
      else if x = Addr.ifReg ∧ s.peek Addr.tima = 0xFF then s.peek Addr.ifReg ||| 0x04
      else s.peek x := by
  unfold timaIncrement
  by_cases hov : s.peek Addr.tima = 0xFF
  · simp only [hov, if_true, and_true, State.peek_poke]
    by_cases hx : x = Addr.ifReg
    · rw [if_pos hx, if_neg (hx ▸ by decide), if_pos hx]
    · rw [if_neg hx, if_neg hx]
  · simp only [hov, if_false, and_false, State.peek_poke]

/-- The bytes after a tick: those of the count, and where TIMA is due those of its increment (R271, R272). -/
theorem timerTick_peek (s : State) (x : Word) :
    (timerTick s).peek x =
      if x = Addr.div then hiByte (s.ctr + 1)
      else if x = Addr.tima ∧ timaDue (countAndMirror s) = true then
        (if s.peek Addr.tima = 0xFF then s.peek Addr.tma else s.peek Addr.tima + 1)
      else if x = Addr.ifReg ∧ (timaDue (countAndMirror s) = true ∧ s.peek Addr.tima = 0xFF) then s.peek Addr.ifReg ||| 0x04
      else s.peek x := by
  rw [timerTick_unfold]
  by_cases hdue : timaDue (countAndMirror s) = true
  · have htima : Addr.tima ≠ Addr.div := by decide
    have htma : Addr.tma ≠ Addr.div := by decide
    have hif : Addr.ifReg ≠ Addr.div := by decide
    simp only [hdue, if_true, true_and, and_true, timaIncrement_peek, countAndMirror_peek, if_neg htima, if_neg htma,
      if_neg hif]
    by_cases hx : x = Addr.div
    · subst hx
      rw [if_neg htima.symm, if_neg fun h => hif h.1.symm, if_pos rfl, if_pos rfl]
    · simp only [if_neg hx]
  · simp only [hdue, Bool.false_eq_true, if_false, false_and, and_false, countAndMirror_peek]

/-- Settles O14: the bytes of a tick are those of the count, and then of the increment where TIMA is due. -/
theorem timerTickCountsAndOverflows : Obligations.TimerTickCountsAndOverflows := by
  intro s n tac period due overflow
  have hdue : timaDue (countAndMirror s) = due := timaDue_countAndMirror s
  have hoverflow : overflow = true ↔ due = true ∧ s.peek Addr.tima = 0xFF := by
    rw [Bool.and_eq_true, decide_eq_true_iff]
  refine ⟨by rw [timerTick_eq]; rfl, timerTick_ctr s, fun x => ?_⟩
  rw [timerTick_peek, hdue]
  simp only [hoverflow]
  by_cases hd : due = true
  · simp only [hd, true_and, and_true]
    rfl
  · simp only [hd, Bool.false_eq_true, false_and, and_false]
    rfl

/-! ### Reset -/

theorem reset_peek (a : Word) : State.reset.peek a = if a = 0xFF00 then 0xCF else 0x00 := by
  have h : a.toNat = 0xFF00 ↔ a = 0xFF00 := BitVec.toNat_inj (y := (0xFF00 : Word))
  exact if_congr h rfl rfl

/-- Settles O16: the fields are those of the record, and an unlisted byte is JOYP's or zero. -/
theorem resetStateAndItsInvariants : Obligations.ResetStateAndItsInvariants := by
  refine ⟨rfl, rfl, rfl, rfl, rfl, rfl, rfl, rfl, rfl, rfl, rfl, reset_peek, rfl, fun x hx1 hx2 => ?_, rfl, rfl, rfl, rfl⟩
  rw [reset_peek, reset_peek, if_neg (by bv_omega), if_neg (by bv_omega)]

end Sys2Proof.Machine

/-! PROOFS. The loads, the stores and the stack (40_load8, 41_load16_stack). -/

namespace Sys2Proof.Machine

/-! ### Loads -/

theorem toNat_ioPage (offset : Byte) : (ioPage offset).toNat = 0xFF00 + offset.toNat := by
  unfold ioPage zext16
  bv_omega

/-- The address of the I/O page forms has 0xFF for its high byte (R111 to R114). -/
theorem ioPage_eq_append (offset : Byte) : ioPage offset = 0xFF#8 ++ offset := by
  apply BitVec.eq_of_toNat_eq
  rw [toNat_ioPage, BitVec.toNat_append]
  exact Nat.shiftLeft_add_eq_or_of_lt offset.isLt 0xFF

theorem loadReg_eq (d : Reg8) (v : Byte) (len : Word) (s : State) :
    loadReg d v len s = .next { s.setReg d v with pc := s.pc + len } := by
  rw [loadReg, State.advance, State.setReg_pc]

/-- Settles O28: the three shapes of a load into a register. -/
theorem loadsIntoARegister : Obligations.LoadsIntoARegister := by
  intro d r v s
  rw [exec_ldRegReg, exec_ldRegImm, exec_ldRegHL]
  exact ⟨loadReg_eq d _ 1 s, loadReg_eq d v 2 s, loadReg_eq d _ 1 s⟩

/-- Settles O29: each row is a load of A at its address. -/
theorem loadsOfAFromMemory : Obligations.LoadsOfAFromMemory := by
  intro a8 a16 s
  rw [← ioPage_eq_append, ← ioPage_eq_append, BitVec.sub_eq_add_neg]
  exact ⟨rfl, rfl, rfl, rfl, rfl, rfl, rfl⟩

theorem loadPair_eq (p : Pair) (v len : Word) (s : State) :
    loadPair p v len s = .next { s.setPair p v with pc := s.pc + len } := by
  rw [loadPair, State.advance, State.setPair_pc]

/-- Settles O31: the rows that write a pair have one shape. -/
theorem sixteenBitLoadsAndPairArithmetic : Obligations.SixteenBitLoadsAndPairArithmetic := by
  intro p v s
  rw [exec_ldPairImm, exec_incPair, exec_decPair]
  exact ⟨loadPair_eq p v 3 s, rfl, loadPair_eq p _ 1 s, loadPair_eq p _ 1 s, rfl, rfl, rfl, rfl⟩

/-! ### Stores -/

theorem mayStore_ioPage (offset : Byte) (s : State) : s.mayStore (ioPage offset) := by
  right
  rw [toNat_ioPage]
  omega

theorem storeByte_of_mayStore {a : Word} (v : Byte) (len : Word) {s : State} (h : s.mayStore a) :
    storeByte a v len s = .next { busEffect a v s with pc := s.pc + len } := by
  rw [storeByte, busWrite_of_mayStore v h, andThen_next, State.advance, busEffect_pc]

theorem storeAStepHL_of_mayStore (delta : Word) {s : State} (h : s.mayStore s.hl) :
    storeAStepHL delta s = .next { (busEffect s.hl s.a s).setHl (s.hl + delta) with pc := s.pc + 1 } := by
  rw [storeAStepHL, busWrite_of_mayStore _ h, andThen_next, State.advance, State.setHl_pc, busEffect_pc]

/-- Settles O30: every row is the one store, where its address may be stored to. -/
theorem storesOfAByte : Obligations.StoresOfAByte := by
  refine ⟨fun a v s h => busWrite_of_mayStore v h, fun r v s h => ?hl, fun s h => storeByte_of_mayStore _ 1 h,
    fun s h => storeByte_of_mayStore _ 1 h, fun a16 s h => storeByte_of_mayStore _ 3 h, fun a8 s => ?io⟩
  case hl =>
    rw [exec_ldHLReg, BitVec.sub_eq_add_neg]
    exact ⟨storeByte_of_mayStore _ 1 h, storeByte_of_mayStore v 2 h, storeAStepHL_of_mayStore 1 h,
      storeAStepHL_of_mayStore (-1) h⟩
  case io =>
    rw [← ioPage_eq_append, ← ioPage_eq_append]
    exact ⟨storeByte_of_mayStore _ 2 (mayStore_ioPage a8 s), storeByte_of_mayStore _ 1 (mayStore_ioPage s.c s)⟩

/-! ### The stack pointer and the stack -/

/-- A signed displacement is added modulo 2^16 (R6). -/
theorem add_sext16 (w : Word) (d : Byte) : w + sext16 d = BitVec.ofInt 16 ((w.toNat : Int) + d.toInt) := by
  rw [BitVec.ofInt_add, BitVec.ofInt_natCast, BitVec.ofNat_toNat, BitVec.setWidth_eq]
  rfl

theorem lowNibble_eq (v : Byte) : lowNibble v = v.toNat % 16 := Nat.and_two_pow_sub_one_eq_mod v.toNat 4

theorem addSp8_eq (sp : Word) (d : Byte) :
    addSp8 sp d =
      (BitVec.ofInt 16 ((sp.toNat : Int) + d.toInt),
        { z := false, n := false, h := decide (sp.toNat % 16 + d.toNat % 16 > 15)
          c := decide (sp.toNat % 256 + d.toNat > 255) }) := by
  have h4 : (sp &&& 0x0F).toNat = sp.toNat % 16 := Nat.and_two_pow_sub_one_eq_mod sp.toNat 4
  have h8 : (sp &&& 0xFF).toNat = sp.toNat % 256 := Nat.and_two_pow_sub_one_eq_mod sp.toNat 8
  rw [addSp8, add_sext16, h4, h8, lowNibble_eq]

/-- Settles O32: both rows take the sum and the flags of the one displacement. -/
theorem stackPointerDisplacement : Obligations.StackPointerDisplacement := by
  intro d s sum fl
  rw [exec_row_ld_HL_SPr8, exec_row_add_SP_r8, addSp8_eq]
  exact ⟨rfl, rfl⟩

theorem pushed_pc (v : Word) (s : State) : (pushed v s).pc = s.pc := by
  rw [pushed, State.setSp_pc, busEffect_pc, busEffect_pc]

theorem pushPair_of_mayStore (p : StackPair) {s : State} (h1 : s.mayStore (s.sp - 1)) (h2 : s.mayStore (s.sp - 2)) :
    pushPair p s = .next ((pushed (s.stackPair p) s).advance 1) := by
  rw [pushPair, push16_of_mayStore _ h1 h2, andThen_next]

/-- Settles O33: PUSH is two bus writes below SP, LD (a16),SP two from a16 on. -/
theorem pushAndStoreSp : Obligations.PushAndStoreSp := by
  refine ⟨fun p s h1 h2 => ?push, fun a16 s h1 h2 => ?store⟩
  case push =>
    intro hi lo
    have hhi : hiByte (s.stackPair p) = hi := by cases p <;> exact hiByte_wordOf _ _
    have hlo : loByte (s.stackPair p) = lo := by cases p <;> exact loByte_wordOf _ _
    rw [exec_pushRow, pushPair_of_mayStore p h1 h2, State.advance, pushed_pc, pushed, hhi, hlo]
    rfl
  case store =>
    rw [exec_row_ld_ma16_SP, busWrite16, busWrite_of_mayStore _ h1, andThen_next,
      busWrite_of_mayStore _ (mayStore_busEffect _ _ h2), andThen_next, State.advance, busEffect_pc, busEffect_pc]
    rfl

/-- Settles O34: the popped word is the byte at SP + 1 above the byte at SP. -/
theorem popRestoresAPair : Obligations.PopRestoresAPair := by
  intro s lo hi
  have hhi : hiByte (popValue s) = hi := hiByte_wordOf _ _
  have hlo : loByte (popValue s) = lo := loByte_wordOf _ _
  simp only [exec_popRow, popPair, State.setStackPair, State.setBc, State.setDe, State.setHl, State.setAf, hhi, hlo]
  exact ⟨rfl, rfl, rfl, rfl⟩

/-- The regions that store the byte they are given. -/
def Stores (a : Word) : Prop := regionOf a = .plain ∨ regionOf a = .workRam ∨ regionOf a = .echoRam

theorem Stores.mayStore {a : Word} (h : Stores a) (s : State) : s.mayStore a :=
  .inr fun ha => by
    have hr := (regionOf_unusable_iff a).2 ha
    unfold Stores at h
    simp [hr] at h

/-- A byte stored there is read back. -/
theorem Stores.peek_busEffect {a : Word} (h : Stores a) (v : Byte) (s : State) : (busEffect a v s).peek a = v := by
  rcases h with h | h | h
  · rw [busEffect_plain v s h, State.peek_poke_same]
  · rw [busEffect_workRam v s h, peek_poke_poke, if_pos (.inl rfl)]
  · rw [busEffect_echoRam v s h, peek_poke_poke, if_pos (.inl rfl)]

/-- A store there does not reach the next address. -/
theorem Stores.touches_next {a : Word} (h : Stores a) : touches a (a + 1) = false := by
  have hne : a + 1 ≠ a := by bv_omega
  have hup : a + 1 ≠ a + 0x2000 := by bv_omega
  have hdown : a + 1 ≠ a - 0x2000 := by bv_omega
  unfold touches
  rcases h with h | h | h <;> simp only [h]
  · exact beq_false_of_ne hne
  · exact Bool.or_eq_false_iff.2 ⟨beq_false_of_ne hne, beq_false_of_ne hup⟩
  · exact Bool.or_eq_false_iff.2 ⟨beq_false_of_ne hne, beq_false_of_ne hdown⟩

/-- On storing memory the word just pushed is the word to be popped (R130, R131). -/
theorem popValue_pushed {s : State} (v : Word) (h1 : Stores (s.sp - 1)) (h2 : Stores (s.sp - 2)) :
    popValue (pushed v s) = v := by
  have hnext : s.sp - 2 + 1 = s.sp - 1 := by bv_omega
  have hhi : (pushed v s).peek (s.sp - 2 + 1) = hiByte v := by
    rw [pushed, State.peek_setSp, busEffect_peek_other _ _ _ h2.touches_next, hnext, h1.peek_busEffect]
  have hlo : (pushed v s).peek (s.sp - 2) = loByte v := h2.peek_busEffect _ _
  calc popValue (pushed v s) = wordOf ((pushed v s).peek (s.sp - 2 + 1)) ((pushed v s).peek (s.sp - 2)) := rfl
    _ = v := by rw [hhi, hlo, wordOf_hi_lo]

/-- A pair given back its own word has it, and the flags are as they were if they are those of the word for AF. -/
theorem stackPair_setStackPair (p : StackPair) {s u : State} (hf : u.flags = s.flags) :
    (u.setStackPair p (s.stackPair p)).stackPair p = s.stackPair p ∧
    (u.setStackPair p (s.stackPair p)).flags = s.flags := by
  cases p with
  | BC | DE | HL => exact ⟨wordOf_hi_lo _, hf⟩
  | AF =>
    have hflags : Flags.ofByte (loByte s.af) = s.flags := by
      rw [State.af, loByte_wordOf, State.f, Flags.ofByte_toByte]
    have ha : hiByte s.af = s.a := hiByte_wordOf _ _
    refine ⟨?_, hflags⟩
    change wordOf (hiByte s.af) (Flags.ofByte (loByte s.af)).toByte = _
    rw [hflags, ha]
    rfl

theorem stackPair_advance (p : StackPair) (s : State) (n : Word) : (s.advance n).stackPair p = s.stackPair p := by
  cases p <;> rfl

/-- Settles O35: the popped word is the pushed one. -/
theorem popUndoesPush : Obligations.PopUndoesPush := by
  intro p s h1 h2
  have h1 : Stores (s.sp - 1) := h1
  have h2 : Stores (s.sp - 2) := h2
  have hpop : popValue ((pushed (s.stackPair p) s).advance 1) = s.stackPair p := popValue_pushed _ h1 h2
  have hflags : (pushed (s.stackPair p) s).flags = s.flags := by simp [pushed]
  refine ⟨_, _, by rw [exec_pushRow, pushPair_of_mayStore p (h1.mayStore s) (h2.mayStore s)],
    by rw [exec_popRow, popPair, hpop], ?_⟩
  obtain ⟨hpair, hf⟩ := stackPair_setStackPair p (u := popState ((pushed (s.stackPair p) s).advance 1)) hflags
  refine ⟨(stackPair_advance p _ 1).trans hpair, ?_, hf⟩
  · rw [State.advance_sp, State.setStackPair_sp]
    exact BitVec.sub_add_cancel s.sp 2

end Sys2Proof.Machine

/-! PROOFS. 8-bit and 16-bit arithmetic as arithmetic on numbers (42_alu8, 43_alu16). -/

namespace Sys2Proof.Machine

/-! ### Operands and results -/

theorem loc_eq (s : State) (x : Loc8) :
    s.loc x = match x with | .reg r => s.reg r | .atHL => s.peek (s.h ++ s.l) := by
  cases x <;> rfl

/-- A result whose register and flags are known, and whose PC is past the instruction. -/
theorem accResult_eq (rf : Byte × Flags) (len : Word) (s : State) :
    accResult rf len s = .next { s with a := rf.1, flags := rf.2, pc := s.pc + len } := rfl

theorem flagsOnly_eq (f : Flags) (len : Word) (s : State) :
    flagsOnly f len s = .next { s with flags := f, pc := s.pc + len } := rfl

theorem toNat_eq_ite (c : Bool) : c.toNat = if c then 1 else 0 := by cases c <;> rfl

/-- The test of R150 for a zero result, on the exact sum. -/
theorem ofNat_beq_zero (n : Nat) : (BitVec.ofNat 8 n == 0) = decide (n % 256 = 0) := by
  rw [beq_eq_decide, decide_eq_decide, ← BitVec.toNat_inj, BitVec.toNat_ofNat]
  rfl

/-! ### Addition and subtraction -/

theorem add8_eq (a x : Byte) (cin : Bool) :
    add8 a x cin =
      (BitVec.ofNat 8 (a.toNat + x.toNat + cin.toNat),
        { z := decide ((a.toNat + x.toNat + cin.toNat) % 256 = 0), n := false,
          h := decide (a.toNat % 16 + x.toNat % 16 + cin.toNat > 15)
          c := decide (a.toNat + x.toNat + cin.toNat > 255) }) := by
  rw [add8, ofNat_beq_zero, lowNibble_eq, lowNibble_eq]

/-- Settles O36: both rows are the exact sum with its carry-in. -/
theorem addImmediate : Obligations.AddImmediate := by
  intro d s after
  refine ⟨rfl, ?_, ?_⟩
  · change accResult (add8 s.a d false) 2 s = _
    rw [accResult_eq, add8_eq]
    rfl
  · change accResult (add8 s.a d s.flags.c) 2 s = _
    rw [accResult_eq, add8_eq, toNat_eq_ite]

/-- Settles O37: the operand is read, then added as an immediate would be. -/
theorem addAndAdcOfALocation : Obligations.AddAndAdcOfALocation := by
  intro x s v after
  have hv : s.loc x = v := loc_eq s x
  rw [exec_aluLoc, exec_aluLoc, hv]
  refine ⟨?_, ?_⟩
  · change accResult (add8 s.a v false) 1 s = _
    rw [accResult_eq, add8_eq]
    rfl
  · change accResult (add8 s.a v s.flags.c) 1 s = _
    rw [accResult_eq, add8_eq, toNat_eq_ite]

theorem ofInt_sub_natCast (i : Int) (n : Nat) :
    BitVec.ofInt 8 (i - n) = BitVec.ofInt 8 i - BitVec.ofNat 8 n := by
  rw [Int.sub_eq_add_neg, BitVec.ofInt_add, BitVec.ofInt_neg, BitVec.ofInt_natCast, ← BitVec.sub_eq_add_neg]

theorem sub8_eq (a x : Byte) (cin : Bool) :
    sub8 a x cin =
      (a - x - BitVec.ofNat 8 cin.toNat,
        { z := decide (a - x - BitVec.ofNat 8 cin.toNat = 0), n := true,
          h := decide (a.toNat % 16 < x.toNat % 16 + cin.toNat), c := decide (a.toNat < x.toNat + cin.toNat) }) := by
  have hdiff : BitVec.ofInt 8 ((a.toNat : Int) - x.toNat - cin.toNat) = a - x - BitVec.ofNat 8 cin.toNat := by
    rw [ofInt_sub_natCast, ofInt_sub_natCast, BitVec.ofInt_natCast, BitVec.ofNat_toNat, BitVec.ofNat_toNat,
      BitVec.setWidth_eq, BitVec.setWidth_eq]
  rw [sub8, hdiff, lowNibble_eq, lowNibble_eq, beq_eq_decide]

/-- Settles O38: SUB, SBC and CP are one subtraction, whose result CP drops. -/
theorem subtractAndCompare : Obligations.SubtractAndCompare := by
  intro x d s v diff after borrow
  have hv : s.loc x = v := loc_eq s x
  have hsub (y : Byte) (len : Word) : aluOn .sub y len s = .next (after y 0 false len) := by
    change accResult (sub8 s.a y false) len s = _
    rw [accResult_eq, sub8_eq]
    rfl
  have hsbc (y : Byte) (len : Word) : aluOn .sbc y len s = .next (after y borrow false len) := by
    change accResult (sub8 s.a y s.flags.c) len s = _
    rw [accResult_eq, sub8_eq, toNat_eq_ite]
    rfl
  have hcp (y : Byte) (len : Word) : aluOn .cp y len s = .next (after y 0 true len) := by
    change flagsOnly (sub8 s.a y false).2 len s = _
    rw [flagsOnly_eq, sub8_eq]
    rfl
  simp only [exec_aluLoc, exec_aluImm, hv]
  exact ⟨hsub v 1, hsub d 2, hsbc v 1, hsbc d 2, hcp v 1, hcp d 2⟩

/-! ### Logic, complement and carry -/

/-- Settles O39: each row is its bitwise operation, and the flags are constants but for Z. -/
theorem logicComplementAndCarryInstructions : Obligations.LogicComplementAndCarryInstructions := by
  intro x d s v after
  have hv : s.loc x = v := loc_eq s x
  have hand (y : Byte) (len : Word) : aluOn .and y len s = .next (after (s.a &&& y) true len) := rfl
  have hxor (y : Byte) (len : Word) : aluOn .xor y len s = .next (after (s.a ^^^ y) false len) := rfl
  have hor (y : Byte) (len : Word) : aluOn .or y len s = .next (after (s.a ||| y) false len) := rfl
  have hnot : s.a ^^^ 0xFF = ~~~s.a := BitVec.xor_allOnes
  simp only [exec_aluLoc, exec_aluImm, hv, exec_row_cpl, hnot]
  exact ⟨hand v 1, hand d 2, hxor v 1, hxor d 2, hor v 1, hor d 2, rfl, rfl, rfl⟩

/-! ### Increment and decrement -/

theorem inc8_eq (v : Byte) (f : Flags) :
    inc8 v f = (v + 1, { z := decide (v = 0xFF), n := false, h := decide (v.toNat % 16 = 15), c := f.c }) := by
  have hz : (v + 1 == 0) = decide (v = 0xFF) := by
    rw [beq_eq_decide, decide_eq_decide]
    bv_omega
  rw [inc8, hz, lowNibble_eq]

theorem dec8_eq (v : Byte) (f : Flags) :
    dec8 v f = (v - 1, { z := decide (v = 0x01), n := true, h := decide (v.toNat % 16 = 0), c := f.c }) := by
  have hz : (v - 1 == 0) = decide (v = 0x01) := by
    rw [beq_eq_decide, decide_eq_decide]
    bv_omega
  rw [dec8, hz, lowNibble_eq]

theorem modifyLoc_reg (r : Reg8) (rf : Byte × Flags) (len : Word) (s : State) :
    modifyLoc (.reg r) rf len s = .next { s.setReg r rf.1 with flags := rf.2, pc := s.pc + len } := by
  rw [modifyLoc, writeLoc, andThen_next, State.advance, State.setFlags_pc, State.setReg_pc]
  rfl

theorem modifyLoc_atHL (rf : Byte × Flags) (len : Word) {s : State} (h : s.mayStore s.hl) :
    modifyLoc .atHL rf len s = .next { busEffect s.hl rf.1 s with flags := rf.2, pc := s.pc + len } := by
  rw [modifyLoc, writeLoc, busWrite_of_mayStore _ h, andThen_next, State.advance, State.setFlags_pc, busEffect_pc]
  rfl

/-- Settles O40: the operand is modified in place, a register or through the bus. -/
theorem incrementAndDecrement : Obligations.IncrementAndDecrement := by
  intro s incF decF
  simp only [exec_incLoc, exec_decLoc, incOn, decOn, inc8_eq, dec8_eq]
  exact ⟨fun r => ⟨modifyLoc_reg r _ 1 s, modifyLoc_reg r _ 1 s⟩,
    fun h => ⟨modifyLoc_atHL _ 1 h, modifyLoc_atHL _ 1 h⟩⟩

end Sys2Proof.Machine

/-! PROOFS. DAA and the decimal digits it gives (42_alu8 R173), and ADD HL,rr (43_alu16 R190). -/

namespace Sys2Proof.Machine

/-! ### DAA as one correction, added or subtracted -/

/-- The correction of R173 from its two tests. -/
def daaCorrection (high low : Bool) : Byte := (if high then 0x60 else 0) + (if low then 0x06 else 0)

theorem toNat_daaCorrection (high low : Bool) :
    (daaCorrection high low).toNat = (if high then 0x60 else 0) + (if low then 0x06 else 0) := by
  cases high <;> cases low <;> rfl

theorem ofNat_toNat_add (a : Byte) (n : Nat) : BitVec.ofNat 8 (a.toNat + n) = a + BitVec.ofNat 8 n := by
  rw [BitVec.ofNat_add, BitVec.ofNat_toNat, BitVec.setWidth_eq]

theorem ofInt_toNat_sub (a : Byte) (n : Nat) : BitVec.ofInt 8 ((a.toNat : Int) - n) = a - BitVec.ofNat 8 n := by
  rw [ofInt_sub_natCast, BitVec.ofInt_natCast, BitVec.ofNat_toNat, BitVec.setWidth_eq]

/-- Adding 0x60 keeps the low nibble, so its test may be made on the old byte. -/
theorem daaAdd_eq (a : Byte) (f : Flags) :
    daaAdd a f =
      (a.toNat + (daaCorrection (f.c || decide (a.toNat > 0x99)) (f.h || decide (a.toNat % 16 > 9))).toNat,
        f.c || decide (a.toNat > 0x99)) := by
  have hlow : (a.toNat + 0x60) % 0x10 = a.toNat % 16 := by omega
  rw [toNat_daaCorrection]
  unfold daaAdd
  generalize (f.c || decide (a.toNat > 0x99)) = high
  cases high
  · simp only [Bool.false_eq_true, if_false]
    split <;> rfl
  · simp only [if_true, hlow]
    split <;> rfl

theorem daaSub_eq (a : Byte) (f : Flags) : daaSub a f = (a.toNat : Int) - (daaCorrection f.c f.h).toNat := by
  rw [toNat_daaCorrection, daaSub]
  cases f.c <;> cases f.h <;> simp
  omega

/-- DAA as D20 has it: the tests of A count after an addition alone. -/
theorem daa8_eq (a : Byte) (f : Flags) :
    let high := f.c || (!f.n && decide (a.toNat > 0x99))
    let low := f.h || (!f.n && decide (a.toNat % 16 > 9))
    let r := if f.n then a - daaCorrection high low else a + daaCorrection high low
    daa8 a f = (r, { z := decide (r = 0), n := f.n, h := false, c := high }) := by
  intro high low r
  have hbyte (x : Byte) : BitVec.ofNat 8 x.toNat = x := by rw [BitVec.ofNat_toNat, BitVec.setWidth_eq]
  cases hn : f.n with
  | true =>
    have hr : r = BitVec.ofInt 8 (daaSub a f) := by
      rw [daaSub_eq, ofInt_toNat_sub, hbyte]
      simp [r, high, low, hn]
    have hc : high = f.c := by simp [high, hn]
    simp only [daa8, hn, if_true, ← hr, hc, beq_eq_decide]
  | false =>
    have hr : r = BitVec.ofNat 8 (daaAdd a f).1 := by
      rw [daaAdd_eq, ofNat_toNat_add, hbyte]
      simp [r, high, low, hn]
    have hc : high = (daaAdd a f).2 := by simp [daaAdd_eq, high, hn]
    simp only [daa8, hn, Bool.false_eq_true, if_false, ← hr, ← hc, beq_eq_decide]

/-- Settles O41. -/
theorem decimalAdjust : Obligations.DecimalAdjust := by
  intro s high low correction r
  change accResult (daa8 s.a s.flags) 1 s = _
  rw [accResult_eq, daa8_eq]
  rfl

/-! ### Decimal digits -/

/-- The byte holds two decimal digits. -/
def IsBcd (v : Byte) : Prop := v.toNat / 16 ≤ 9 ∧ v.toNat % 16 ≤ 9

/-- The number that the two digits of a byte make. -/
def digits (v : Byte) : Nat := 10 * (v.toNat / 16) + v.toNat % 16

/-- The tests that DAA makes after an addition of digits are the two decimal carries. -/
theorem daa8_add8 {a d : Byte} (ha : IsBcd a) (hd : IsBcd d) :
    daa8 (add8 a d false).1 (add8 a d false).2 =
      let r := BitVec.ofNat 8 (a.toNat + d.toNat) +
        daaCorrection (decide (100 ≤ digits a + digits d)) (decide (a.toNat % 16 + d.toNat % 16 > 9))
      (r, { z := decide (r = 0), n := false, h := false, c := decide (100 ≤ digits a + digits d) }) := by
  obtain ⟨hx, hy⟩ := ha
  obtain ⟨hu, hv⟩ := hd
  have hhigh : (decide (a.toNat + d.toNat > 255) || decide ((a.toNat + d.toNat) % 256 > 0x99)) =
      decide (100 ≤ digits a + digits d) := by
    rw [← Bool.decide_or, decide_eq_decide, digits, digits]
    omega
  have hlow : (decide (a.toNat % 16 + d.toNat % 16 > 15) || decide ((a.toNat + d.toNat) % 256 % 16 > 9)) =
      decide (a.toNat % 16 + d.toNat % 16 > 9) := by
    rw [← Bool.decide_or, decide_eq_decide]
    omega
  simp only [daa8_eq, add8_eq, Bool.toNat_false, Nat.add_zero, BitVec.toNat_ofNat, Bool.not_false, Bool.true_and,
    Bool.false_eq_true, if_false, Nat.reducePow, hhigh, hlow]

/-- The borrows of a subtraction of digits are the two decimal borrows. -/
theorem daa8_sub8 (a d : Byte) :
    daa8 (sub8 a d false).1 (sub8 a d false).2 =
      let r := a - d - daaCorrection (decide (a.toNat < d.toNat)) (decide (a.toNat % 16 < d.toNat % 16))
      (r, { z := decide (r = 0), n := true, h := false, c := decide (a.toNat < d.toNat) }) := by
  simp [daa8_eq, sub8_eq]

/-- A byte of two decimal digits is known by its digits. -/
theorem isBcd_digits_of_toNat {r : Byte} {x y : Nat} (hx : x ≤ 9) (hy : y ≤ 9) (hr : r.toNat = 16 * x + y) :
    IsBcd r ∧ digits r = 10 * x + y := by
  unfold IsBcd digits
  omega

/-- A sum of two digits and a carry: its own carry and the digit it leaves. -/
theorem exists_carry {n : Nat} (hn : n ≤ 19) : ∃ k x, k ≤ 1 ∧ x ≤ 9 ∧ n = 10 * k + x :=
  ⟨n / 10, n % 10, by omega, by omega, by omega⟩

/-- With the decimal carries `k` and `m` of the digit sums named, the corrections are `6 * k` and `0x60 * m`. -/
theorem digits_add {a d : Byte} (ha : IsBcd a) (hd : IsBcd d) :
    let r := BitVec.ofNat 8 (a.toNat + d.toNat) +
      daaCorrection (decide (100 ≤ digits a + digits d)) (decide (a.toNat % 16 + d.toNat % 16 > 9))
    IsBcd r ∧ digits r = (digits a + digits d) % 100 := by
  intro r
  obtain ⟨hx, hy⟩ := ha
  obtain ⟨hu, hv⟩ := hd
  obtain ⟨k, y, hk, hy9, hlow⟩ := exists_carry (n := a.toNat % 16 + d.toNat % 16) (by omega)
  obtain ⟨m, x, hm, hx9, hhigh⟩ := exists_carry (n := a.toNat / 16 + d.toNat / 16 + k) (by omega)
  have hsum : digits a + digits d = 100 * m + (10 * x + y) := by
    unfold digits
    omega
  have hsix : (if a.toNat % 16 + d.toNat % 16 > 9 then 0x06 else 0) = 6 * k := by split <;> omega
  have hsixty : (if 100 ≤ digits a + digits d then 0x60 else 0) = 0x60 * m := by split <;> omega
  have hr : r.toNat = 16 * x + y := by
    calc r.toNat = (a.toNat + d.toNat + (0x60 * m + 6 * k)) % 256 := by
          simp [r, BitVec.toNat_add, toNat_daaCorrection, hsix, hsixty]
      _ = (256 * m + (16 * x + y)) % 256 := by congr 1; omega
      _ = 16 * x + y := by omega
  obtain ⟨hbcd, hdigits⟩ := isBcd_digits_of_toNat hx9 hy9 hr
  exact ⟨hbcd, by omega⟩

/-- A difference of two digits, 10 lent to it: whether it kept the 10, and the digit it leaves. -/
theorem exists_borrow {n u : Nat} (hn : n ≤ 9) (hu : u ≤ 10) : ∃ k x, k ≤ 1 ∧ x ≤ 9 ∧ n + 10 * k = u + x := by
  rcases Nat.lt_or_ge n u with h | h
  · exact ⟨1, n + 10 - u, by omega⟩
  · exact ⟨0, n - u, by omega⟩

/-- The same with the decimal borrows `k` and `m` of the digit differences. -/
theorem digits_sub {a d : Byte} (ha : IsBcd a) (hd : IsBcd d) :
    let r := a - d - daaCorrection (decide (a.toNat < d.toNat)) (decide (a.toNat % 16 < d.toNat % 16))
    IsBcd r ∧ digits r = (100 + digits a - digits d) % 100 := by
  intro r
  obtain ⟨hx, hy⟩ := ha
  obtain ⟨hu, hv⟩ := hd
  obtain ⟨k, y, hk, hy9, hlow⟩ := exists_borrow hy (Nat.le_succ_of_le hv)
  obtain ⟨m, x, hm, hx9, hhigh⟩ := exists_borrow hx (u := d.toNat / 16 + k) (by omega)
  have hdiff : digits a + 100 * m = digits d + (10 * x + y) := by
    unfold digits
    omega
  have hsix : (if a.toNat % 16 < d.toNat % 16 then 0x06 else 0) = 6 * k := by split <;> omega
  have hsixty : (if a.toNat < d.toNat then 0x60 else 0) = 0x60 * m := by split <;> omega
  have hr : r.toNat = 16 * x + y := by
    have hc : (daaCorrection (decide (a.toNat < d.toNat)) (decide (a.toNat % 16 < d.toNat % 16))).toNat =
        0x60 * m + 6 * k := by
      simp [toNat_daaCorrection, hsix, hsixty]
    rw [BitVec.toNat_sub, BitVec.toNat_sub, hc]
    omega
  obtain ⟨hbcd, hdigits⟩ := isBcd_digits_of_toNat hx9 hy9 hr
  exact ⟨hbcd, by unfold digits at *; omega⟩

theorem toNat_lt_iff_digits_lt {a d : Byte} (ha : IsBcd a) (hd : IsBcd d) : a.toNat < d.toNat ↔ digits a < digits d := by
  unfold IsBcd digits at *
  omega

/-- The result and the carry of DAA right after the addition of two bytes of digits. -/
theorem daa8_of_add8 {a d : Byte} (ha : IsBcd a) (hd : IsBcd d) :
    let rf := daa8 (add8 a d false).1 (add8 a d false).2
    IsBcd rf.1 ∧ digits rf.1 = (digits a + digits d) % 100 ∧ rf.2.c = decide (100 ≤ digits a + digits d) := by
  rw [daa8_add8 ha hd]
  exact ⟨(digits_add ha hd).1, (digits_add ha hd).2, rfl⟩

/-- The result and the carry of DAA right after their subtraction. -/
theorem daa8_of_sub8 {a d : Byte} (ha : IsBcd a) (hd : IsBcd d) :
    let rf := daa8 (sub8 a d false).1 (sub8 a d false).2
    IsBcd rf.1 ∧ digits rf.1 = (100 + digits a - digits d) % 100 ∧ rf.2.c = decide (digits a < digits d) := by
  rw [daa8_sub8]
  exact ⟨(digits_sub ha hd).1, (digits_sub ha hd).2, decide_eq_decide.2 (toNat_lt_iff_digits_lt ha hd)⟩

/-- Settles O42: the corrections of DAA are the decimal carries of the sum, or the borrows of the difference. -/
theorem decimalAdjustGivesDecimalSums : Obligations.DecimalAdjustGivesDecimalSums := by
  intro d s _ _ ha hd
  exact ⟨⟨_, _, rfl, rfl, daa8_of_add8 ha hd⟩, ⟨_, _, rfl, rfl, daa8_of_sub8 ha hd⟩⟩

/-! ### ADD HL,rr -/

theorem toNat_and_twelve_bits (w : Word) : (w &&& 0x0FFF).toNat = w.toNat % 4096 :=
  Nat.and_two_pow_sub_one_eq_mod w.toNat 12

theorem hiByte_ofNat (n : Nat) : hiByte (BitVec.ofNat 16 n) = BitVec.ofNat 8 (n / 256) := by
  apply BitVec.eq_of_toNat_eq
  simp [hiByte]
  omega

theorem loByte_ofNat (n : Nat) : loByte (BitVec.ofNat 16 n) = BitVec.ofNat 8 n := by
  apply BitVec.eq_of_toNat_eq
  simp [loByte]

/-- Settles O43. -/
theorem addToHL : Obligations.AddToHL := by
  intro p s x sum
  have hx : s.pair p = x := by cases p <;> rfl
  rw [exec_addHLPair, addHL, hx, add16, toNat_and_twelve_bits, toNat_and_twelve_bits, State.setHl, hiByte_ofNat,
    loByte_ofNat]
  rfl

end Sys2Proof.Machine

/-! PROOFS. Rotates, shifts and single bits over every operand (44_rotate_shift_bit). -/

namespace Sys2Proof.Machine

/-! ### Rotates and shifts -/

/-- Settles O45: each is the primitive of O44 with the carry-in it takes. -/
theorem accumulatorRotates : Obligations.AccumulatorRotates := by
  intro s n cin after
  obtain ⟨hrlc, hrrc, hrl, hrr, -⟩ := rotateAndShiftPrimitives s.a s.flags.c
  rw [toNat_eq_ite] at hrl hrr
  rw [exec_row_rlca, exec_row_rrca, exec_row_rla, exec_row_rra, show rlc s.a = _ from hrlc,
    show rrc s.a = _ from hrrc, show rl s.a s.flags.c = _ from hrl, show rr s.a s.flags.c = _ from hrr]
  exact ⟨rfl, rfl, rfl, rfl⟩

/-- The result of a CB rotate as a number below 256 (R200 to R207), its carry-in a number. -/
def rotNumber (op : RotOp) (n cin : Nat) : Nat :=
  match op with
  | .rlc => (2 * n + n / 128) % 256
  | .rrc => n / 2 + 128 * (n % 2)
  | .rl => (2 * n + cin) % 256
  | .rr => n / 2 + 128 * cin
  | .sla => (2 * n) % 256
  | .sra => n / 2 + 128 * (n / 128)
  | .swap => 16 * (n % 16) + n / 16
  | .srl => n / 2

/-- The bit that a CB rotate moves out; SWAP moves none. -/
def rotOut (op : RotOp) (n : Nat) : Bool :=
  match op with
  | .rlc => decide (n ≥ 128)
  | .rl => decide (n ≥ 128)
  | .sla => decide (n ≥ 128)
  | .swap => false
  | .rrc => decide (n % 2 = 1)
  | .rr => decide (n % 2 = 1)
  | .sra => decide (n % 2 = 1)
  | .srl => decide (n % 2 = 1)

theorem rotNumber_lt (op : RotOp) (v : Byte) (cin : Bool) : rotNumber op v.toNat cin.toNat < 256 := by
  have hv : v.toNat < 256 := v.isLt
  have hc : cin.toNat < 2 := cin.toNat_lt
  cases op <;> unfold rotNumber <;> dsimp only <;> omega

theorem rotResult_eq (op : RotOp) (v : Byte) (cin : Bool) :
    rotResult op v cin = (BitVec.ofNat 8 (rotNumber op v.toNat cin.toNat), rotOut op v.toNat) := by
  obtain ⟨hrlc, hrrc, hrl, hrr, hsla, hsra, hsrl, hswap⟩ := rotateAndShiftPrimitives v cin
  have hmod (n : Nat) : BitVec.ofNat 8 (n % 256) = BitVec.ofNat 8 n := BitVec.eq_of_toNat_eq (by simp)
  cases op with
  | rlc => rw [hrlc, rotNumber, hmod, rotOut]
  | rrc => exact hrrc
  | rl => rw [hrl, rotNumber, hmod, rotOut]
  | rr => exact hrr
  | sla => rw [hsla, rotNumber, hmod, rotOut]
  | sra => exact hsra
  | swap => exact Prod.ext hswap rfl
  | srl => exact hsrl

theorem rotFlags_ofNat {n : Nat} (hn : n < 256) (carry : Bool) :
    rotFlags (BitVec.ofNat 8 n) carry = { z := decide (n = 0), n := false, h := false, c := carry } := by
  rw [rotFlags, ofNat_beq_zero, Nat.mod_eq_of_lt hn]

/-- Settles O46: the primitive of O44, written back to a register or through the bus. -/
theorem cbRotatesAndShifts : Obligations.CbRotatesAndShifts := by
  intro op s cin result out fl
  have hcin : s.flags.c.toNat = cin := toNat_eq_ite _
  have hresult (v : Byte) : rotNumber op v.toNat s.flags.c.toNat = result v := by rw [hcin]; cases op <;> rfl
  have hout (v : Byte) : rotOut op v.toNat = out v := by cases op <;> rfl
  have hrot (x : Loc8) : exec (.rotLoc op x) s =
      modifyLoc x (BitVec.ofNat 8 (result (s.loc x)), fl (s.loc x)) 2 s := by
    rw [exec_rotLoc, rotateOn, rotResult_eq, rotFlags_ofNat (rotNumber_lt op _ _), hresult, hout]
  exact ⟨fun r => (hrot _).trans (modifyLoc_reg r _ 2 s), fun h => (hrot _).trans (modifyLoc_atHL _ 2 h)⟩

/-! ### Single bits -/

/-- Settles O47. -/
theorem bitTest : Obligations.BitTest := by
  intro b x s v
  have hv : s.loc x = v := loc_eq s x
  rw [exec_bitLoc, bitOn, flagsOnly_eq, hv]
  rfl

theorem bitIdx_lt (b : BitIdx) : b.index < 8 := by cases b <;> decide

theorem one_shiftLeft_eq_twoPow (b : Nat) : (1 : Byte) <<< b = BitVec.twoPow 8 b := (BitVec.twoPow_eq 8 b).symm

/-- A clear bit is set by adding it. -/
theorem toNat_or_twoPow {v : Byte} {b : Nat} (hb : b < 8) (h : v.getLsbD b = false) :
    (v ||| BitVec.twoPow 8 b).toNat = v.toNat + 2 ^ b := by
  have hand : v &&& BitVec.twoPow 8 b = 0#8 := by
    rw [BitVec.and_twoPow, h]
    rfl
  rw [← BitVec.add_eq_or_of_and_eq_zero _ _ hand, BitVec.toNat_add_of_and_eq_zero hand, BitVec.toNat_twoPow_of_lt hb]

theorem setBit_eq (v : Byte) {b : Nat} (hb : b < 8) :
    setBit v b = BitVec.ofNat 8 (if v.getLsbD b then v.toNat else v.toNat + 2 ^ b) := by
  rw [setBit, one_shiftLeft_eq_twoPow]
  cases h : v.getLsbD b with
  | true =>
    rw [if_pos rfl, BitVec.ofNat_toNat, BitVec.setWidth_eq]
    ext i hi
    rw [BitVec.getElem_or, BitVec.getElem_twoPow, ← BitVec.getLsbD_eq_getElem]
    by_cases hib : i = b
    · subst hib; simp [h]
    · simp [hib]
  | false =>
    rw [if_neg Bool.false_ne_true, ← toNat_or_twoPow hb h, BitVec.ofNat_toNat, BitVec.setWidth_eq]

theorem getLsbD_resetBit (v : Byte) (b : Nat) {i : Nat} (hi : i < 8) :
    (resetBit v b).getLsbD i = (v.getLsbD i && decide (i ≠ b)) := by
  rw [resetBit, one_shiftLeft_eq_twoPow]
  simp [hi, eq_comm]

theorem resetBit_eq (v : Byte) {b : Nat} (hb : b < 8) :
    resetBit v b = BitVec.ofNat 8 (if v.getLsbD b then v.toNat - 2 ^ b else v.toNat) := by
  cases h : v.getLsbD b with
  | true =>
    have hclear : (resetBit v b).getLsbD b = false := by simp [getLsbD_resetBit v b hb]
    have hback : resetBit v b ||| BitVec.twoPow 8 b = v := by
      apply BitVec.eq_of_getLsbD_eq
      intro i hi
      rw [BitVec.getLsbD_or, getLsbD_resetBit v b hi, BitVec.getLsbD_twoPow]
      rcases eq_or_ne i b with rfl | hib
      · simp [h, hi]
      · simp [hib, hib.symm]
    rw [if_pos rfl, ← congrArg BitVec.toNat hback, toNat_or_twoPow hb hclear, Nat.add_sub_cancel, BitVec.ofNat_toNat,
      BitVec.setWidth_eq]
  | false =>
    rw [if_neg Bool.false_ne_true, BitVec.ofNat_toNat, BitVec.setWidth_eq]
    apply BitVec.eq_of_getLsbD_eq
    intro i hi
    rw [getLsbD_resetBit v b hi]
    rcases eq_or_ne i b with rfl | hib
    · simp [h]
    · simp [hib]

/-- RES and SET, their operand a register: it is written and PC moves on. -/
theorem writeLoc_reg_advance (r : Reg8) (v : Byte) (len : Word) (s : State) :
    (andThen (writeLoc (.reg r) v s) fun t => .next (t.advance len)) = .next { s.setReg r v with pc := s.pc + len } := by
  rw [writeLoc, andThen_next, State.advance, State.setReg_pc]

theorem writeLoc_atHL_advance (v : Byte) (len : Word) {s : State} (h : s.mayStore s.hl) :
    (andThen (writeLoc .atHL v s) fun t => .next (t.advance len)) = .next { busEffect s.hl v s with pc := s.pc + len } := by
  rw [writeLoc, busWrite_of_mayStore _ h, andThen_next, State.advance, busEffect_pc]

/-- Settles O48: the bit is taken away or added where it is there or missing. -/
theorem resetAndSetBit : Obligations.ResetAndSetBit := by
  intro b s res set
  have hres (x : Loc8) : exec (.resLoc b x) s = andThen (writeLoc x (res (s.loc x)) s) fun t => .next (t.advance 2) := by
    rw [exec_resLoc, resOn, resetBit_eq _ (bitIdx_lt b)]
  have hset (x : Loc8) : exec (.setLoc b x) s = andThen (writeLoc x (set (s.loc x)) s) fun t => .next (t.advance 2) := by
    rw [exec_setLoc, setOn, setBit_eq _ (bitIdx_lt b)]
  simp only [hres, hset]
  exact ⟨fun r => ⟨writeLoc_reg_advance r _ 2 s, writeLoc_reg_advance r _ 2 s⟩,
    fun h => ⟨writeLoc_atHL_advance _ 2 h, writeLoc_atHL_advance _ 2 h⟩⟩

/-! ### Round trips -/

/-- What running one rotate again and again leaves. -/
theorem repeat_exec {i : Instr} {f : State → State} (h : ∀ s, exec i s = .next (f s)) (n : Nat) (s : State) :
    Nat.repeat (fun o => andThen o (exec i)) n (.next s) = .next (f^[n] s) := by
  induction n with
  | zero => rfl
  | succ n ih => rw [Nat.repeat, ih, andThen_next, h, Function.iterate_succ_apply']

/-- Bits that move `k` places round a ring of `n` at each step. -/
theorem iterate_ring {f : State → State} {bit : State → Nat → Bool} {n k : Nat}
    (h : ∀ s i, i < n → bit (f s) i = bit s ((i + k) % n)) (m : Nat) (s : State) {i : Nat} (hi : i < n) :
    bit (f^[m] s) i = bit s ((i + m * k) % n) := by
  induction m generalizing s with
  | zero => rw [Function.iterate_zero_apply, Nat.zero_mul, Nat.add_zero, Nat.mod_eq_of_lt hi]
  | succ m ih =>
    rw [Function.iterate_succ_apply, ih, h _ _ (Nat.mod_lt _ (Nat.zero_lt_of_lt hi)), Nat.mod_add_mod, Nat.succ_mul,
      Nat.add_assoc]

/-- The bits of A, the ring that RLCA and RRCA turn. -/
def ringA (s : State) (i : Nat) : Bool := s.a.getLsbD i

/-- The bits of A with C above them, the ring that RLA and RRA turn. -/
def ringCA (s : State) (i : Nat) : Bool := if i = 8 then s.flags.c else s.a.getLsbD i

/-- The state after an accumulator rotate. -/
def rotatedAcc (rc : Byte × Bool) (s : State) : State :=
  { s with a := rc.1, flags := accRotFlags rc.2, pc := s.pc + 1 }

theorem getLsbD_bitByte (c : Bool) (i : Nat) : (bitByte c).getLsbD i = (decide (i = 0) && c) := by
  cases c
  · simp [bitByte]
  · cases i <;> simp [bitByte]

theorem getLsbD_rl (v : Byte) (cin : Bool) {i : Nat} (hi : i < 8) :
    (rl v cin).1.getLsbD i = if i = 0 then cin else v.getLsbD (i - 1) := by
  simp only [rl, BitVec.getLsbD_or, BitVec.getLsbD_shiftLeft, getLsbD_bitByte, hi]
  cases i <;> simp

theorem getLsbD_rr (v : Byte) (cin : Bool) {i : Nat} (hi : i < 8) :
    (rr v cin).1.getLsbD i = if i = 7 then cin else v.getLsbD (i + 1) := by
  simp only [rr, BitVec.getLsbD_or, BitVec.getLsbD_ushiftRight, BitVec.getLsbD_shiftLeft, getLsbD_bitByte, hi]
  rcases eq_or_ne i 7 with rfl | h
  · simp
  · have : i < 7 := by omega
    simp [h, this, Nat.add_comm]

theorem ringA_rlca (s : State) (i : Nat) (hi : i < 8) : ringA (rotatedAcc (rlc s.a) s) i = ringA s ((i + 7) % 8) := by
  refine (getLsbD_rl s.a _ hi).trans ?_
  interval_cases i <;> rfl

theorem ringA_rrca (s : State) (i : Nat) (hi : i < 8) : ringA (rotatedAcc (rrc s.a) s) i = ringA s ((i + 1) % 8) := by
  refine (getLsbD_rr s.a _ hi).trans ?_
  interval_cases i <;> rfl

theorem ringCA_rla (s : State) (i : Nat) (hi : i < 9) :
    ringCA (rotatedAcc (rl s.a s.flags.c) s) i = ringCA s ((i + 8) % 9) := by
  rcases Nat.lt_succ_iff_lt_or_eq.1 hi with h | rfl
  · refine (if_neg h.ne).trans ((getLsbD_rl s.a _ h).trans ?_)
    interval_cases i <;> rfl
  · rfl

theorem ringCA_rra (s : State) (i : Nat) (hi : i < 9) :
    ringCA (rotatedAcc (rr s.a s.flags.c) s) i = ringCA s ((i + 1) % 9) := by
  rcases Nat.lt_succ_iff_lt_or_eq.1 hi with h | rfl
  · refine (if_neg h.ne).trans ((getLsbD_rr s.a _ h).trans ?_)
    interval_cases i <;> rfl
  · rfl

theorem a_eq_of_ringA {s t : State} (h : ∀ i, i < 8 → ringA t i = ringA s i) : t.a = s.a :=
  BitVec.eq_of_getLsbD_eq h

theorem a_eq_of_ringCA {s t : State} (h : ∀ i, i < 9 → ringCA t i = ringCA s i) : t.a = s.a ∧ t.flags.c = s.flags.c := by
  refine ⟨BitVec.eq_of_getLsbD_eq fun i hi => ?_, h 8 (by decide)⟩
  simpa only [ringCA, if_neg hi.ne] using h i (hi.trans (by decide))

/-- Settles O49: eight places round the ring of A, or nine round that of A and C, are none. -/
theorem rotateRoundTrips : Obligations.RotateRoundTrips := by
  intro s times
  have hround {f : State → State} {bit : State → Nat → Bool} {n k : Nat}
      (h : ∀ s i, i < n → bit (f s) i = bit s ((i + k) % n)) (i : Nat) (hi : i < n) : bit (f^[n] s) i = bit s i := by
    rw [iterate_ring h n s hi, Nat.add_mul_mod_self_left, Nat.mod_eq_of_lt hi]
  refine ⟨⟨_, repeat_exec (f := fun s => rotatedAcc (rlc s.a) s) (fun _ => rfl) 8 s, ?_, ?_⟩,
    ⟨_, repeat_exec (f := fun s => rotatedAcc (rrc s.a) s) (fun _ => rfl) 8 s, ?_, ?_⟩,
    ⟨_, repeat_exec (f := fun s => rotatedAcc (rl s.a s.flags.c) s) (fun _ => rfl) 9 s,
      a_eq_of_ringCA (hround ringCA_rla)⟩,
    ⟨_, repeat_exec (f := fun s => rotatedAcc (rr s.a s.flags.c) s) (fun _ => rfl) 9 s,
      a_eq_of_ringCA (hround ringCA_rra)⟩⟩
  · exact a_eq_of_ringA (hround ringA_rlca)
  · rw [Function.iterate_succ_apply']
    exact iterate_ring (bit := ringA) ringA_rlca 7 s (i := 7) (by decide)
  · exact a_eq_of_ringA (hround ringA_rrca)
  · rw [Function.iterate_succ_apply']
    exact iterate_ring (bit := ringA) ringA_rrca 7 s (i := 0) (by decide)

end Sys2Proof.Machine

/-! PROOFS. Jumps, calls and returns (45_control), and the system rows (46_system). -/

namespace Sys2Proof.Machine

/-! ### Conditions and jumps -/

theorem cond_eq (s : State) (cc : Cond) :
    s.cond cc = match cc with | .NZ => !s.flags.z | .Z => s.flags.z | .NC => !s.flags.c | .C => s.flags.c := by
  cases cc <;> rfl

theorem jumpIf_eq (taken : Bool) (target len : Word) (s : State) :
    jumpIf taken target len s = .next { s with pc := if taken then target else s.pc + len } := by
  cases taken <;> rfl

theorem jrTarget_eq (s : State) (d : Byte) : jrTarget s d = BitVec.ofInt 16 ((s.pc.toNat : Int) + 2 + d.toInt) := by
  have hsum : (s.pc.toNat : Int) + 2 + d.toInt = s.pc.toNat + d.toInt + 2 := by omega
  rw [jrTarget, hsum, BitVec.ofInt_add, ← add_sext16, BitVec.add_assoc, BitVec.add_assoc, BitVec.add_comm (2 : Word)]
  rfl

/-- Settles O50. -/
theorem jumps : Obligations.Jumps := by
  intro cc n d s taken target
  have ht : s.cond cc = taken := cond_eq s cc
  have hd : jrTarget s d = target := jrTarget_eq s d
  rw [exec_jpCond, exec_row_jr_r8, exec_jrCond, jumpIf_eq, jumpIf_eq, ht, hd]
  exact ⟨rfl, rfl, rfl, rfl, rfl⟩

/-! ### Calls and returns -/

theorem callTo_of_mayStore (target len : Word) {s : State} (h1 : s.mayStore (s.sp - 1)) (h2 : s.mayStore (s.sp - 2)) :
    callTo target len s = .next ((pushed (s.pc + len) s).setPc target) := by
  rw [callTo, push16_of_mayStore _ h1 h2, andThen_next]

theorem address_eq (k : RstTarget) : k.address = match k with
    | .t00 => 0x00 | .t08 => 0x08 | .t10 => 0x10 | .t18 => 0x18 | .t20 => 0x20 | .t28 => 0x28 | .t30 => 0x30
    | .t38 => 0x38 := by
  cases k <;> rfl

/-- Settles O51: a call is a push of the address after it, then a jump. -/
theorem callsAndRestarts : Obligations.CallsAndRestarts := by
  intro cc n k s taken pushing rst
  have ht : s.cond cc = taken := cond_eq s cc
  have hrst : k.address = rst := address_eq k
  rw [exec_callCond, exec_rstRow, ht, hrst, callIf]
  refine ⟨fun h => if_neg (by simp [h]), fun h1 h2 => ?_⟩
  have hcall (target len : Word) : callTo target len s = .next (pushing (s.pc + len) target) :=
    callTo_of_mayStore target len h1 h2
  exact ⟨hcall n 3, fun h => (if_pos h).trans (hcall n 3), hcall rst 1⟩

/-- Settles O52. -/
theorem returns : Obligations.Returns := by
  intro cc s taken popped
  have ht : s.cond cc = taken := cond_eq s cc
  have hret : returnFrom s = .next popped := rfl
  rw [exec_retCond, exec_row_ret, returnIf, ht, hret, apply_ite Host.Outcome.next]
  exact ⟨rfl, rfl, rfl⟩

/-! ### System rows -/

/-- Settles O53. -/
theorem nopDiAndReti : Obligations.NopDiAndReti := by
  intro s
  refine ⟨⟨rfl, rfl⟩, ⟨_, rfl, rfl⟩, ⟨_, rfl, rfl, ?_⟩⟩
  rw [timerTick_ime]
  rfl

theorem afterEi_eq (i : Ime) : i.afterEi = if i = .disabled then .scheduled .two else i := by cases i <;> rfl

/-- Settles O54. -/
theorem haltStopDiAndEi : Obligations.HaltStopDiAndEi := by
  intro pad s
  rw [exec_row_stop, exec_row_ei, exec_stop, afterEi_eq]
  exact ⟨rfl, fun h => by rw [h]; rfl, fun h => by rw [h], rfl, rfl⟩

/-- Settles O55: an illegal row does what its policy says. -/
theorem illegalOpcodesReportOrFault : Obligations.IllegalOpcodesReportOrFault := by
  intro k s
  rw [exec_illegalRow, illegalOn]
  exact ⟨⟨encode_illegalRow k, (exists_opcode_eq_iff _).1 ⟨k, rfl⟩⟩, fun h => by rw [h]; rfl, fun h => by rw [h]⟩

/-! ### The row PREFIX CB -/

theorem eq_hl_of_mem_cbStores {sub : Byte} {s : State} {a : Word} (h : a ∈ cbStores sub s) : a = s.hl := by
  unfold cbStores at h
  split at h
  · exact List.mem_singleton.1 h
  · cases h

/-- Settles O56: the row is fetched as the second table's instruction, and stores nowhere but at HL. -/
theorem prefixRowRunsTheSecondTable : Obligations.PrefixRowRunsTheSecondTable := by
  intro s
  refine ⟨?row, ?fetched, ?completes⟩
  case row => rw [exec_cbInstr, exec_row_prefixCb]
  case fetched =>
    intro h
    rw [fetchInstr, State.memRead, h]
    rfl
  case completes =>
    intro hstore
    have hlegal (k : IllegalOp) : Instr.prefixCb ≠ .illegalRow k := by cases k <;> exact Instr.noConfusion
    refine everyInstructionCompletes .prefixCb s (fun a ha => ?_) (.inr hlegal) (.inr fun _ => Instr.noConfusion)
    rw [Instr.storeAddresses_prefixCb] at ha
    rw [eq_hl_of_mem_cbStores ha]
    exact hstore

end Sys2Proof.Machine

/-! PROOFS. The masked, refused and copying writes of the bus (20_memory R47, R48, R50, R51), and the host's load
(70_reset_and_hazards R307). -/

namespace Sys2Proof.Machine

/-- A raw write, as one change of memory: no other state changes. -/
theorem poke_stores (s : State) (a : Word) (v : Byte) :
    ∃ m : Memory, (Host.Outcome.next (s.poke a v) : Result) = .next { s with mem := m } ∧
      ∀ x : Word, m.read x.toNat = if x = a then v else s.peek x :=
  ⟨_, rfl, fun x => State.peek_poke s a x v⟩

/-- What a write to the unusable region answers, by its policy. -/
theorem busWrite_unusable {a : Word} (v : Byte) (s : State) (h : regionOf a = .unusable) :
    busWrite a v s =
      match s.policy.unusableWrite with
      | .permissive => .next (s.emit (.unusableWrite a v))
      | .strict => .fault (.unusableWrite a v) := by
  have heffect : busEffect a v s = s.emit (.unusableWrite a v) := by simp only [busEffect, h]
  rw [busWrite, heffect]
  cases hp : s.policy.unusableWrite with
  | permissive => rw [if_neg (by simp)]
  | strict => rw [if_pos ⟨h, rfl⟩]

/-- Settles O58: JOYP and TAC are raw writes of the masked byte, the unusable region answers by its policy. -/
theorem maskedAndRefusedWrites : Obligations.MaskedAndRefusedWrites := by
  intro a v s
  refine ⟨?joyp, ?tac, fun h1 h2 => ?unusable⟩
  case joyp =>
    rw [busWrite_of_regionOf (r := .joyp) v s rfl (by decide), busEffect_joyp]
    exact poke_stores s 0xFF00 _
  case tac =>
    rw [busWrite_of_regionOf (r := .tac) v s rfl (by decide), busEffect_tac]
    exact poke_stores s 0xFF07 _
  case unusable =>
    rw [busWrite_unusable v s ((regionOf_unusable_iff a).2 ⟨h1, h2⟩)]
    exact ⟨fun h => by rw [h]; rfl, fun h => by rw [h]⟩

/-- No page meets a part of OAM only. -/
theorem page_apart_from_oam (v : Byte) :
    v.toNat * 256 + Addr.oamBytes ≤ Addr.oam ∨ Addr.oam + Addr.oamBytes ≤ v.toNat * 256 ∨ v.toNat * 256 = Addr.oam := by
  simp only [Addr.oam, Addr.oamBytes]
  omega

/-- Settles O59: the byte is stored, then its page is copied. -/
theorem dmaCopiesAPageIntoOam : Obligations.DmaCopiesAPageIntoOam := by
  intro v s
  let stored : Memory := s.mem.write 0xFF46 v
  refine ⟨stored.dmaCopy (v.toNat * 256) Addr.oamBytes, ?_, fun k hk => ?_, fun x hx => ?_⟩
  · exact busWrite_of_regionOf (r := .dma) v s rfl (by decide)
  · exact (Memory.read_dmaCopy_inside stored _ (page_apart_from_oam v) _ le_rfl k hk).trans
      (Memory.read_write s.mem 0xFF46 _ v)
  · have houtside : stored.read x.toNat = if x = 0xFF46 then v else s.peek x := State.peek_poke s 0xFF46 x v
    refine (Memory.read_dmaCopy_outside stored _ _ ?_).trans houtside
    simp only [Addr.oam, Addr.oamBytes]
    omega

/-- Every byte after an image is placed at address 0. -/
theorem placeImage_read (image : List Byte) (m : Memory) (a : Nat) :
    (placeImage image 0 m).read a = (image[a]?).getD (m.read a) := by
  rcases Nat.lt_or_ge a image.length with h | h
  · rw [List.getElem?_eq_getElem h, Option.getD_some]
    simpa only [Nat.zero_add] using placeImage_read_inside image 0 m h
  · rw [List.getElem?_eq_none h, Option.getD_none]
    exact placeImage_read_outside image 0 m (.inr (by omega))

/-- Settles O60. -/
theorem loadPlacesTheImage : Obligations.LoadPlacesTheImage := by
  intro image s
  have hbytes : Config.romBytes = 0x8000 := rfl
  rcases load_cases image s with ⟨hl, h⟩ | ⟨hl, h⟩
  · exact ⟨fun _ => ⟨_, h, placeImage_read image s.mem⟩, fun hlong => absurd hl (by omega)⟩
  · exact ⟨fun hshort => absurd hl (by omega), fun _ => h⟩

end Sys2Proof.Machine
